-- ==== Sys2Proof/Word.lean ====
section
/-! DEFINITION. The word types of the block: every value is unsigned (00_scope.md R8, R11, R12). -/

namespace Sys2Proof

/-- A data byte (R8). -/
abbrev Byte := BitVec 8

/-- A 16-bit value: a frame length, a logical-byte count, a command word (R8). -/
abbrev Word16 := BitVec 16

/-- A 32-bit value: the idle counter and the timeout (R8). -/
abbrev Word32 := BitVec 32

end Sys2Proof
end

