-- ==== Sys2Proof/Config.lean ====
section
/-! DEFINITION. What is fixed when a block is built: the special bytes (00_scope.md R8, R160) and the OPEN
parameters of R8 (K10 to K15), with the constraints the spec puts on them. -/

namespace Sys2Proof

/-- Frame delimiter `DELIM` (R8; source value, K5). -/
def delim : Byte := 0x7E

/-- Escape marker `ESC_BYTE`. PRESUMED: R8 gives the value from general knowledge (log 3). -/
def escByte : Byte := 0x7D

/-- First flow-control byte `XON_BYTE`. PRESUMED: R8 gives the value from general knowledge (log 3). -/
def xonByte : Byte := 0x11

/-- Second flow-control byte `XOFF_BYTE`. PRESUMED: R8 gives the value from general knowledge (log 3). -/
def xoffByte : Byte := 0x13

/-- Mask applied to an escaped byte `ESC_XOR` (R8; source value, K6). -/
def escXor : Byte := 0x20

/-- Checksum complement base and verify target `CK_BASE` (R8; source value, K7). -/
def ckBase : Byte := 0xFF

/-- The verdict of a variant check (R200). -/
inductive Verdict where
  | ok
  | lenMismatch
  | fault (c : Byte)
deriving DecidableEq, Repr, Inhabited

/-- The OPEN parameters of R8, the argument every definition that depends on one takes. -/
structure Config where
  /-- `MAX_BODY`: capacity of the body buffer in bytes. -/
  maxBody : Nat
  /-- `TXQ_DEPTH`: depth of the composer's output queue. -/
  txqDepth : Nat
  /-- `DEFAULT_TIMEOUT_CYCLES`: reset value of `tmo`. -/
  defaultTimeout : Word32
  /-- `REGISTRY`: the class of a type tag; class 0, `GENERIC`, for a tag it does not map (R111, R190). -/
  registry : Byte → Byte
  /-- `VARIANT_CHECK`: class, tag and body to a verdict (R200). -/
  variantCheck : Byte → Byte → List Byte → Verdict

/-- The constraints every instance must meet (R8, R112, R200). -/
structure Config.Valid (cfg : Config) : Prop where
  maxBody_le : cfg.maxBody ≤ 65534
  txqDepth_ge : 3 ≤ cfg.txqDepth
  modemStatus : cfg.registry 0x8A = 11
  generic_ok : ∀ tag body, cfg.variantCheck 0 tag body = .ok
  modemStatus_ok : cfg.variantCheck 11 0x8A [0x06] = .ok

/-- The rows of `REGISTRY_REF`: tag and class (R112). PRESUMED but for the `0x8A` row (K3, log 1). -/
def registryRows : List (Byte × Byte) :=
  [(0x00, 1), (0x01, 2), (0x08, 3), (0x10, 4), (0x11, 5), (0x17, 6), (0x80, 7), (0x81, 8), (0x88, 9),
    (0x89, 10), (0x8A, 11), (0x8B, 12), (0x90, 13), (0x91, 14), (0x97, 15)]

/-- `REGISTRY_REF` as a map, class 0 for every tag without a row (R112). -/
def registryRef (tag : Byte) : Byte :=
  match registryRows.find? (fun row => row.1 == tag) with
  | some row => row.2
  | none => 0

/-- `VC_REF`, the reference variant check of the test vectors (R200, D37). -/
def variantCheckRef (cls _tag : Byte) (body : List Byte) : Verdict :=
  if cls = 11 ∧ body.length ≠ 1 then .lenMismatch else .ok

/-- The reference instance of 95_test_vectors.md: `tmo` resets to a value a vector names. -/
def Config.reference (defaultTimeout : Word32) : Config where
  maxBody := 65534
  txqDepth := 4
  defaultTimeout := defaultTimeout
  registry := registryRef
  variantCheck := variantCheckRef

/-- `MAX_BODY` of the block the machine is: any value `0 .. 65534`, never a chosen one (K10, log 2). -/
opaque Config.freeMaxBody : Fin 65535

/-- What `TXQ_DEPTH` of the block has above 3: any number (K11, log 2). -/
opaque Config.freeTxqExtra : Nat

/-- `DEFAULT_TIMEOUT_CYCLES` of the block: any 32-bit value (K12, log 2). -/
opaque Config.freeDefaultTimeout : Word32

/-- `VARIANT_CHECK` of the block where R200 leaves it OPEN: any total function (K14, log 13). -/
opaque Config.freeVariantCheck : Byte → Byte → List Byte → Verdict

/-- `VARIANT_CHECK` of the block: fixed where R200 (a) and (b) fix it, free everywhere else. -/
def Config.implVariantCheck (cls tag : Byte) (body : List Byte) : Verdict :=
  if cls = 0 then .ok
  else if cls = 11 ∧ tag = 0x8A ∧ body = [0x06] then .ok
  else Config.freeVariantCheck cls tag body

/-- The block `step` runs: every OPEN parameter free within its constraint, the registry that of the opcode
table, as R112 allows (log 1). -/
def Config.impl : Config where
  maxBody := Config.freeMaxBody.val
  txqDepth := Config.freeTxqExtra + 3
  defaultTimeout := Config.freeDefaultTimeout
  registry := registryRef
  variantCheck := Config.implVariantCheck

end Sys2Proof
end

