-- ==== Sys2Proof/Syntax.lean ====
section
/-! DEFINITION. The instruction set: one constructor for each row of spec/opcode_table.json. Operands are those the
row uses (30_encoding.md R105, R106, R112); bits a row ignores are no operand. -/

namespace Sys2Proof

/-- One row of the opcode table with its operands. -/
inductive Instr where
  /-- `NOP` (R251) -/
  | nop
  /-- `CK_CLEAR` (R141) -/
  | ckClear
  /-- `CK_ADD d` (R142) -/
  | ckAdd (d : Byte)
  /-- `CK_VALUE` (R143) -/
  | ckValue
  /-- `CK_VERIFY d` (R144) -/
  | ckVerify (d : Byte)
  /-- `ESC_ENC d` (R167) -/
  | escEnc (d : Byte)
  /-- `ESC_DEC w` (R168) -/
  | escDec (w : Byte)
  /-- `ESC_CLR` (R169) -/
  | escClr
  /-- `TX_LENH d` (R231) -/
  | txLenH (d : Byte)
  /-- `TX_LENL d` (R232) -/
  | txLenL (d : Byte)
  /-- `TX_BYTE d` (R233) -/
  | txByte (d : Byte)
  /-- `TX_END` (R234) -/
  | txEnd
  /-- `TX_ABORT` (R236) -/
  | txAbort
  /-- `PRS_CTRL run=r` (R252) -/
  | prsCtrl (r : Bool)
  /-- `TMO_SET i, d` (R253) -/
  | tmoSet (i : BitVec 2) (d : Byte)
  /-- `REG_RD s`, `s` in 0 .. 7 (R254) -/
  | regRd (s : BitVec 4)
  /-- `REG_RD s`, `s` in 8 .. 15, the reserved selectors (R108) -/
  | regRdReserved (s : BitVec 4)
  /-- type tag `0x00`, class 1 (R112) -/
  | frameTxReq64
  /-- type tag `0x01`, class 2 (R112) -/
  | frameTxReq16
  /-- type tag `0x08`, class 3 (R112) -/
  | frameAtCmd
  /-- type tag `0x10`, class 4 (R112) -/
  | frameZbTxReq
  /-- type tag `0x11`, class 5 (R112) -/
  | frameExplicitTx
  /-- type tag `0x17`, class 6 (R112) -/
  | frameRemoteAtReq
  /-- type tag `0x80`, class 7 (R112) -/
  | frameRx64
  /-- type tag `0x81`, class 8 (R112) -/
  | frameRx16
  /-- type tag `0x88`, class 9 (R112) -/
  | frameAtRsp
  /-- type tag `0x89`, class 10 (R112) -/
  | frameTxStatus
  /-- type tag `0x8A`, class 11, `MODEM_STATUS` (R112) -/
  | frameModemStatus
  /-- type tag `0x8B`, class 12 (R112) -/
  | frameZbTxStatus
  /-- type tag `0x90`, class 13 (R112) -/
  | frameZbRx
  /-- type tag `0x91`, class 14 (R112) -/
  | frameExplicitRx
  /-- type tag `0x97`, class 15 (R112) -/
  | frameRemoteAtRsp
  /-- any other type tag, class 0, `GENERIC` (R111) -/
  | frameGeneric (tag : Byte)
deriving DecidableEq, Repr

end Sys2Proof
end

