-- ==== Sys2Proof/WellFormed.lean ====
section
/-! DEFINITION. Which instruction terms the opcode table has: a selector in its row's range (30_encoding.md R108,
R254) and a generic tag that no registry row maps (R111). -/

namespace Sys2Proof

/-- The operand checks of each row; a row without one admits every operand value. -/
def Instr.wellFormed : Instr → Bool
  | .nop | .ckClear | .ckAdd _ | .ckValue | .ckVerify _ => true
  | .escEnc _ | .escDec _ | .escClr => true
  | .txLenH _ | .txLenL _ | .txByte _ | .txEnd | .txAbort => true
  | .prsCtrl _ | .tmoSet _ _ => true
  | .regRd s => s.toNat < 8
  | .regRdReserved s => 8 ≤ s.toNat
  | .frameTxReq64 | .frameTxReq16 | .frameAtCmd | .frameZbTxReq | .frameExplicitTx => true
  | .frameRemoteAtReq | .frameRx64 | .frameRx16 | .frameAtRsp | .frameTxStatus => true
  | .frameModemStatus | .frameZbTxStatus | .frameZbRx | .frameExplicitRx | .frameRemoteAtRsp => true
  | .frameGeneric tag => registryRef tag == 0

/-- The instruction is a term of the opcode table. -/
abbrev Instr.WellFormed (i : Instr) : Prop := i.wellFormed = true

end Sys2Proof
end

