-- ==== Sys2Proof/Decode.lean ====
section
/-! DEFINITION. The decoder of command words (30_encoding.md R104 to R109) and of type tags (R111, R112), the
encoder written from the same tables (R106, R112, R115), and the host's table-word entry. -/

namespace Sys2Proof

/-- What the block decodes: a 16-bit command word or an 8-bit type tag. -/
inductive FetchUnit where
  | command (w : Word16)
  | typeTag (t : Byte)
deriving DecidableEq, Repr

/-- Field `OP`, bits 15:12 (R104). -/
def fieldOp (w : Word16) : BitVec 4 := w.extractLsb' 12 4

/-- Field `A`, bits 11:8 (R104). -/
def fieldA (w : Word16) : BitVec 4 := w.extractLsb' 8 4

/-- Field `D`, bits 7:0 (R104). -/
def fieldD (w : Word16) : Byte := w.extractLsb' 0 8

/-- The command word decoder: total, one row for each value of `OP`, with `REG_RD` split at selector 8
(R106, R108). Unused bits are ignored (R105). -/
def decodeCommand (w : Word16) : Instr :=
  match (fieldOp w).toNat with
  | 0x0 => .nop
  | 0x1 => .ckClear
  | 0x2 => .ckAdd (fieldD w)
  | 0x3 => .ckValue
  | 0x4 => .ckVerify (fieldD w)
  | 0x5 => .escEnc (fieldD w)
  | 0x6 => .escDec (fieldD w)
  | 0x7 => .escClr
  | 0x8 => .txLenH (fieldD w)
  | 0x9 => .txLenL (fieldD w)
  | 0xA => .txByte (fieldD w)
  | 0xB => .txEnd
  | 0xC => .txAbort
  | 0xD => .prsCtrl ((fieldA w).getLsbD 0)
  | 0xE => .tmoSet ((fieldA w).extractLsb' 0 2) (fieldD w)
  | _ => if (fieldA w).toNat < 8 then .regRd (fieldA w) else .regRdReserved (fieldA w)

/-- The type-tag decoder: the registry row of the tag, else the generic row (R111, R112). -/
def decodeTag (t : Byte) : Instr :=
  match t.toNat with
  | 0x00 => .frameTxReq64
  | 0x01 => .frameTxReq16
  | 0x08 => .frameAtCmd
  | 0x10 => .frameZbTxReq
  | 0x11 => .frameExplicitTx
  | 0x17 => .frameRemoteAtReq
  | 0x80 => .frameRx64
  | 0x81 => .frameRx16
  | 0x88 => .frameAtRsp
  | 0x89 => .frameTxStatus
  | 0x8A => .frameModemStatus
  | 0x8B => .frameZbTxStatus
  | 0x90 => .frameZbRx
  | 0x91 => .frameExplicitRx
  | 0x97 => .frameRemoteAtRsp
  | _ => .frameGeneric t

/-- The decoder of both kinds of unit. No unit is rejected: R106 and R111 leave no undefined encoding. -/
def decode : FetchUnit → Instr
  | .command w => decodeCommand w
  | .typeTag t => decodeTag t

/-- The decoder on a table word: 16 bits is a command word, 8 bits a type tag, and a number of bits or a value
no row of the table has is refused. -/
def decodeTableWord (nbits w : Nat) : Option Instr :=
  match nbits with
  | 16 => if w < 65536 then some (decode (.command (BitVec.ofNat 16 w))) else none
  | 8 => if w < 256 then some (decode (.typeTag (BitVec.ofNat 8 w))) else none
  | _ => none

/-- A command word from its fields (R104, R115). -/
def commandWord (op a : BitVec 4) (d : Byte) : Word16 := (op ++ a) ++ d

/-- The encoder: `OP`, `A`, `D` with unused fields 0 (R115), or the row's type tag (R112). -/
def encode : Instr → FetchUnit
  | .nop => .command (commandWord 0x0 0 0)
  | .ckClear => .command (commandWord 0x1 0 0)
  | .ckAdd d => .command (commandWord 0x2 0 d)
  | .ckValue => .command (commandWord 0x3 0 0)
  | .ckVerify d => .command (commandWord 0x4 0 d)
  | .escEnc d => .command (commandWord 0x5 0 d)
  | .escDec w => .command (commandWord 0x6 0 w)
  | .escClr => .command (commandWord 0x7 0 0)
  | .txLenH d => .command (commandWord 0x8 0 d)
  | .txLenL d => .command (commandWord 0x9 0 d)
  | .txByte d => .command (commandWord 0xA 0 d)
  | .txEnd => .command (commandWord 0xB 0 0)
  | .txAbort => .command (commandWord 0xC 0 0)
  | .prsCtrl r => .command (commandWord 0xD (0#3 ++ BitVec.ofBool r) 0)
  | .tmoSet i d => .command (commandWord 0xE (0#2 ++ i) d)
  | .regRd s => .command (commandWord 0xF s 0)
  | .regRdReserved s => .command (commandWord 0xF s 0)
  | .frameTxReq64 => .typeTag 0x00
  | .frameTxReq16 => .typeTag 0x01
  | .frameAtCmd => .typeTag 0x08
  | .frameZbTxReq => .typeTag 0x10
  | .frameExplicitTx => .typeTag 0x11
  | .frameRemoteAtReq => .typeTag 0x17
  | .frameRx64 => .typeTag 0x80
  | .frameRx16 => .typeTag 0x81
  | .frameAtRsp => .typeTag 0x88
  | .frameTxStatus => .typeTag 0x89
  | .frameModemStatus => .typeTag 0x8A
  | .frameZbTxStatus => .typeTag 0x8B
  | .frameZbRx => .typeTag 0x90
  | .frameExplicitRx => .typeTag 0x91
  | .frameRemoteAtRsp => .typeTag 0x97
  | .frameGeneric tag => .typeTag tag

end Sys2Proof
end

