-- ==== Sys2Proof/Machine/State.lean ====
section
/-! DEFINITION. The state of the block: every register of 10_state.md R31, the registered outputs of 20_memory.md
R90, and the port inputs of the coming clock edges. The reasons a step can stop, and the state after reset. -/

namespace Sys2Proof.Machine

/-- The body buffer's contents: (index, byte) pairs in canonical form, indices strictly rising and no byte equal to
`Memory.fill` (R40, R80). -/
abbrev Memory := List Host.Cell

/-- What an index that is not listed reads as. DESIGN CHOICE: zero, which K16 allows (log 4). -/
def Memory.fill : Byte := 0x00

/-- The canonical form: indices strictly rising, no listed byte equal to the fill. -/
abbrev Memory.wf (m : Memory) : Prop :=
  m.Pairwise (fun a b => a.1 < b.1) ∧ ∀ c ∈ m, c.2 ≠ Memory.fill

/-- The parser states (R33). Code 7 is no state of the model (K18, log 11). -/
inductive ParserState where
  | awaitDelim
  | readLenMsb
  | readLenLsb
  | readType
  | readBody
  | readCksum
  | complete
deriving DecidableEq, Repr

/-- The kinds of a frame-out record (R43). Code 3 is no kind of the model (K19, log 11). -/
inductive FoKind where
  | typed
  | generic
  | errorMarker
deriving DecidableEq, Repr

/-- The events of the event word (R272). -/
inductive EventName where
  | frameOk
  | cksumFail
  | lenZero
  | lenOversize
  | lenMismatch
  | timeout
  | unescSpecial
  | variantFault
  | cmdErr
deriving DecidableEq, Repr

/-- The response record `(err, n, b0, b1)` of a command (R107). -/
structure Response where
  err : Bool
  n : BitVec 2
  b0 : Byte
  b1 : Byte
deriving DecidableEq, Repr

/-- The input signals of the ports at one clock edge (R83). -/
structure PortInputs where
  rst : Bool
  rxValid : Bool
  rxData : Byte
  foReady : Bool
  foRdAddr : Word16
  txReady : Bool
  cmdValid : Bool
  cmdWord : Word16
deriving DecidableEq, Repr

/-- An edge at which nothing is offered and nothing is taken. -/
def PortInputs.idle : PortInputs where
  rst := false
  rxValid := false
  rxData := 0
  foReady := false
  foRdAddr := 0
  txReady := false
  cmdValid := false
  cmdWord := 0

/-- The whole state (R31), the registered outputs (R90, log 8) and the coming inputs (log 5). -/
structure State where
  /-- `run` (R32) -/
  run : Bool
  /-- `ps` (R33) -/
  ps : ParserState
  /-- `len_hi` (R34) -/
  lenHi : Byte
  /-- `frame_len` (R35) -/
  frameLen : Word16
  /-- `rx_cnt` (R36) -/
  rxCnt : Word16
  /-- `ftype` (R37) -/
  ftype : Byte
  /-- `rx_sum` (R38) -/
  rxSum : Byte
  /-- `rx_esc` (R39) -/
  rxEsc : Bool
  /-- `body_buf` (R40) -/
  bodyBuf : Memory
  /-- `rx_ck` (R41) -/
  rxCk : Byte
  /-- `idle_cnt` (R42) -/
  idleCnt : Word32
  /-- `fo_kind` (R43) -/
  foKind : FoKind
  /-- `fo_class` (R43) -/
  foClass : Byte
  /-- `fo_fault` (R43) -/
  foFault : Byte
  /-- `tmo` (R45) -/
  tmo : Word32
  /-- `cmd_err` (R46) -/
  cmdErr : Bool
  /-- `tx_open` (R47) -/
  txOpen : Bool
  /-- `tx_len_hi` (R48) -/
  txLenHi : Byte
  /-- `tx_rem` (R49) -/
  txRem : Word16
  /-- `tx_sum` (R50) -/
  txSum : Byte
  /-- `txq`, head first (R52) -/
  txq : List Byte
  /-- `hc_sum` (R53) -/
  hcSum : Byte
  /-- `hd_esc` (R54) -/
  hdEsc : Bool
  /-- The `rsp_*` outputs of this cycle, absent while `rsp_valid = 0` (R90). -/
  rsp : Option Response
  /-- The `ev` output of this cycle (R90, R272). -/
  ev : BitVec 9
  /-- The model's own field: what the environment offers at the coming edges, the next one first (log 5). -/
  inputs : List PortInputs
deriving DecidableEq, Repr

/-- The reasons a step can stop with a fault: none. No command and no byte puts the block in a fault state (R282);
having no constructor is safe and the spec's own statement (log 19). -/
inductive Fault where
deriving DecidableEq, Repr

/-- The reasons an instruction can be refused. -/
inductive Refusal where
  /-- Raised by an arm of `exec` whose instruction has no meaning yet; safe. No arm raises it in this model. -/
  | notModelled (mnemonic : String)
deriving DecidableEq, Repr

/-- What one instruction or one edge answers. -/
abbrev Result := Host.Outcome State Fault Refusal

/-- The reset values of R31 and R300 for a block with the given parameters. -/
def State.resetOf (cfg : Config) : State where
  run := false
  ps := .awaitDelim
  lenHi := 0
  frameLen := 0
  rxCnt := 0
  ftype := 0
  rxSum := 0
  rxEsc := false
  bodyBuf := []
  rxCk := 0
  idleCnt := 0
  foKind := .typed
  foClass := 0
  foFault := 0
  tmo := cfg.defaultTimeout
  cmdErr := false
  txOpen := false
  txLenHi := 0
  txRem := 0
  txSum := 0
  txq := []
  hcSum := 0
  hdEsc := false
  rsp := none
  ev := 0
  inputs := []

/-- The machine right after reset (R300). -/
def State.reset : State := State.resetOf Config.impl

end Sys2Proof.Machine
end

