-- ==== Sys2Proof/Machine/Ops.lean ====
section
/-! DEFINITION. The named operations the rules are written in (00_scope.md R13): the body buffer, the response and
the event word, the output queue, and the two error entries of the block, abandonment (42_parser.md R197, R279) and
the command error (60_exceptions.md R276). -/

namespace Sys2Proof.Machine

/-- The byte at an index of the body buffer, `BodyRead` (R13). -/
def Memory.read : Memory → Nat → Byte
  | [], _ => Memory.fill
  | c :: m, a => if c.1 = a then c.2 else Memory.read m a

/-- `BodyWrite` (R13) on the canonical form: an index written with the fill is not listed. -/
def Memory.write : Memory → Nat → Byte → Memory
  | [], a, v => if v = Memory.fill then [] else [(a, v)]
  | c :: m, a, v =>
    if a < c.1 then (if v = Memory.fill then c :: m else (a, v) :: c :: m)
    else if a = c.1 then (if v = Memory.fill then m else (a, v) :: m)
    else c :: Memory.write m a v

/-- The bytes at indices `0 .. n - 1`. -/
def Memory.prefixBytes (m : Memory) (n : Nat) : List Byte := (List.range n).map m.read

/-- One operation after another: what stops, stops the whole. -/
def andThen (r : Result) (f : State → Result) : Result :=
  match r with
  | .next s => f s
  | .fault e => .fault e
  | .refused e => .refused e

/-- The bit number of an event in the event word (R272). -/
def EventName.code : EventName → Nat
  | .frameOk => 0
  | .cksumFail => 1
  | .lenZero => 2
  | .lenOversize => 3
  | .lenMismatch => 4
  | .timeout => 5
  | .unescSpecial => 6
  | .variantFault => 7
  | .cmdErr => 8

/-- The event word with one bit set. -/
def EventName.bit (e : EventName) : BitVec 9 := 1#9 <<< e.code

/-- `Emit(ev, NAME)` (R13, R272). -/
def emit (e : EventName) (s : State) : State := { s with ev := s.ev ||| e.bit }

/-- `Respond(err, n, b0, b1)` (R13, R107). -/
def respond (err : Bool) (n : BitVec 2) (b0 b1 : Byte) (s : State) : State :=
  { s with rsp := some ⟨err, n, b0, b1⟩ }

/-- A command that completes with no data byte: `Respond(0, 0, 0x00, 0x00)`. -/
def done (s : State) : State := respond false 0 0x00 0x00 s

/-- `Enqueue(bytes)` (R13, R52). -/
def enqueue (bytes : List Byte) (s : State) : State := { s with txq := s.txq ++ bytes }

/-- The registered outputs last one cycle: an edge begins with none (R90). -/
def clearPulses (s : State) : State := { s with rsp := none, ev := 0 }

/-- Abandonment without an event, as a stop does it (R197, R252). -/
def abandonQuietly (s : State) : State := { s with ps := .awaitDelim, rxEsc := false, idleCnt := 0 }

/-- `Abandon(NAME)`, the block's one error entry (R197, R279): nothing is saved, nothing else changes. -/
def abandon (e : EventName) (s : State) : State := abandonQuietly (emit e s)

/-- `raise CMD_ERR` (R13, R276): no other effect of the command takes place. -/
def raiseCmdErr (s : State) : State := respond true 0 0x00 0x00 (emit .cmdErr { s with cmdErr := true })

/-- `BodyWrite(i, v)` (R13, R40). -/
def bodyWrite (i : Nat) (v : Byte) (s : State) : State := { s with bodyBuf := s.bodyBuf.write i v }

/-- `BodyRead(i)` (R13, R40). -/
def bodyRead (i : Nat) (s : State) : Byte := s.bodyBuf.read i

/-- The body of the frame in the buffer: `[BodyRead(0), ..., BodyRead(frame_len - 2)]` (R194, R206). -/
def frameBody (s : State) : List Byte := s.bodyBuf.prefixBytes (s.frameLen.toNat - 1)

/-- The mid-frame states (00_scope.md R15). -/
def ParserState.midFrame : ParserState → Bool
  | .awaitDelim => false
  | .readLenMsb => true
  | .readLenLsb => true
  | .readType => true
  | .readBody => true
  | .readCksum => true
  | .complete => false

end Sys2Proof.Machine
end

