-- ==== Sys2Proof/Machine/Flags.lean ====
section
/-! DEFINITION. The flags of the block as software reads them: the parser-state code, the record-kind code and the
`STATUS` word (10_state.md R33, R43, R55, R56). There are no condition codes (R55). -/

namespace Sys2Proof.Machine

/-- The 3-bit code of `ps` (R33). -/
def ParserState.code : ParserState → BitVec 3
  | .awaitDelim => 0
  | .readLenMsb => 1
  | .readLenLsb => 2
  | .readType => 3
  | .readBody => 4
  | .readCksum => 5
  | .complete => 6

/-- The 2-bit code of `fo_kind` (R43). -/
def FoKind.code : FoKind → BitVec 2
  | .typed => 0
  | .generic => 1
  | .errorMarker => 2

/-- The `STATUS` word (R56): reserved bits 15:8 read 0, then `CMD_ERR`, `HD_ESC`, `TX_OPEN`, `RUN`, `RX_ESC`, `PS`. -/
def statusWord (s : State) : Word16 :=
  0x00#8 ++ BitVec.ofBool s.cmdErr ++ BitVec.ofBool s.hdEsc ++ BitVec.ofBool s.txOpen ++ BitVec.ofBool s.run
    ++ BitVec.ofBool s.rxEsc ++ s.ps.code

end Sys2Proof.Machine
end

