-- ==== Sys2Proof/Machine/Operands.lean ====
section
/-! DEFINITION. Operand forms and multi-byte values: the big-endian length and 16-bit response (20_memory.md R81,
30_encoding.md R102, R107), the byte lanes of `tmo` (R105, R253) and the `REG_RD` register map (10_state.md R57). -/

namespace Sys2Proof.Machine

/-- The length from its two bytes, most significant first (R81, R102). -/
def lengthOf (hi lo : Byte) : Word16 := hi ++ lo

/-- Bits 15:8 of a 16-bit value (R81, R107). -/
def highByte (v : Word16) : Byte := v.extractLsb' 8 8

/-- Bits 7:0 of a 16-bit value (R81, R107). -/
def lowByte (v : Word16) : Byte := v.extractLsb' 0 8

/-- Byte `i` of a 32-bit value, bits `8i+7 : 8i` (R105). -/
def byteLane (i : BitVec 2) (v : Word32) : Byte := v.extractLsb' (8 * i.toNat) 8

/-- Byte `i` of a 32-bit value replaced, the other three unchanged (R105, R253). -/
def setByteLane (i : BitVec 2) (d : Byte) (v : Word32) : Word32 :=
  (v &&& ~~~(0xFF#32 <<< (8 * i.toNat))) ||| (d.setWidth 32 <<< (8 * i.toNat))

/-- The value a `REG_RD` selector reads, none for a reserved selector (R57). -/
def readRegister (sel : BitVec 4) (s : State) : Option Word16 :=
  match sel.toNat with
  | 0 => some (statusWord s)
  | 1 => some s.frameLen
  | 2 => some s.rxCnt
  | 3 => some s.txRem
  | 4 => some (s.tmo.extractLsb' 0 16)
  | 5 => some (s.tmo.extractLsb' 16 16)
  | 6 => some (s.rxSum ++ s.txSum)
  | 7 => some (statusWord s)
  | _ => none

/-- A command that answers a 16-bit value: `Respond(0, 2, v[15:8], v[7:0])` (R107, R254). -/
def respondWord (v : Word16) (s : State) : State := respond false 2 (highByte v) (lowByte v) s

end Sys2Proof.Machine
end

