-- ==== Sys2Proof/Machine/Checksum.lean ====
section
/-! DEFINITION. The checksum unit: its functions (40_checksum.md R140), used by the parser, the composer and the host
alike (R147), and the four commands on the host instance (R141 to R144). -/

namespace Sys2Proof.Machine

/-- `ck_clear()` (R140). -/
def ckClear : Byte := 0x00

/-- `ck_add(s, b)`: addition mod 256, no other transformation (R140). -/
def ckAdd (sum b : Byte) : Byte := sum + b

/-- `ck_value(s)`: `0xFF -8 s` (R140). -/
def ckValue (sum : Byte) : Byte := ckBase - sum

/-- `ck_verify(s, t)`: the trailing byte completes the sum to `0xFF` (R140). -/
def ckVerify (sum t : Byte) : Bool := sum + t == ckBase

/-- The sum of a byte sequence, each byte folded in once (R140, R145). -/
def ckSum (bs : List Byte) : Byte := bs.foldl ckAdd ckClear

/-- `CK_CLEAR` (R141). -/
def execCkClear (s : State) : Result := .next (done { s with hcSum := ckClear })

/-- `CK_ADD d` (R142). -/
def execCkAdd (d : Byte) (s : State) : Result := .next (done { s with hcSum := ckAdd s.hcSum d })

/-- `CK_VALUE` (R143). -/
def execCkValue (s : State) : Result := .next (respond false 1 (ckValue s.hcSum) 0x00 s)

/-- `CK_VERIFY d` (R144): a mismatch is a result, not an error, and the sum is not updated. -/
def execCkVerify (d : Byte) (s : State) : Result :=
  .next (respond false 1 (if ckVerify s.hcSum d then 0x01 else 0x00) 0x00 s)

end Sys2Proof.Machine
end

