-- ==== Sys2Proof/Machine/Codec.lean ====
section
/-! DEFINITION. The byte-stuffing codec: encoder and decoder step (41_codec.md R160 to R166, R170), used by the
composer, the parser and the host, and the three host commands (R167 to R169). -/

namespace Sys2Proof.Machine

/-- `SPECIAL(b)` (R10, R160). -/
def isSpecial (b : Byte) : Bool := b == delim || b == escByte || b == xonByte || b == xoffByte

/-- `enc(b)`: one logical byte to one or two wire bytes (R161). -/
def encodeByte (b : Byte) : List Byte := if isSpecial b then [escByte, b ^^^ escXor] else [b]

/-- `escape(bs)` (R162). -/
def escape : List Byte → List Byte
  | [] => []
  | b :: bs => encodeByte b ++ escape bs

/-- What one decoder step gives: the new pending bit, at most one logical byte, the unescaped-special flag (R166). -/
structure DecodeStep where
  pending : Bool
  out : Option Byte
  flag : Bool
deriving DecidableEq, Repr

/-- `dec_step(p, w)` (R166): the byte after an escape marker is XOR-ed whatever its value. -/
def decodeStep (pending : Bool) (w : Byte) : DecodeStep :=
  if pending then ⟨false, some (w ^^^ escXor), false⟩
  else if w = escByte then ⟨true, none, false⟩
  else ⟨false, some w, isSpecial w⟩

/-- `unescape(p, ws)`: the logical bytes and the pending bit at the end (R170). -/
def unescape (pending : Bool) : List Byte → List Byte × Bool
  | [] => ([], pending)
  | w :: ws =>
    let d := decodeStep pending w
    let rest := unescape d.pending ws
    (d.out.toList ++ rest.1, rest.2)

/-- `ESC_ENC d` (R167). -/
def execEscEnc (d : Byte) (s : State) : Result :=
  .next (if isSpecial d then respond false 2 escByte (d ^^^ escXor) s else respond false 1 d 0x00 s)

/-- `ESC_DEC w` (R168): the flag is not reported by the host decoder. -/
def execEscDec (w : Byte) (s : State) : Result :=
  let d := decodeStep s.hdEsc w
  let s1 := { s with hdEsc := d.pending }
  .next (match d.out with
    | some v => respond false 1 v 0x00 s1
    | none => done s1)

/-- `ESC_CLR` (R169). -/
def execEscClr (s : State) : Result := .next (done { s with hdEsc := false })

end Sys2Proof.Machine
end

