-- ==== Sys2Proof/Machine/Composer.lean ====
section
/-! DEFINITION. The frame composer's five commands (43_composer.md R231 to R237). -/

namespace Sys2Proof.Machine

/-- `TX_LENH d` (R231). -/
def execTxLenH (d : Byte) (s : State) : Result :=
  .next (if s.txOpen then raiseCmdErr s else done { s with txLenHi := d })

/-- `TX_LENL d` (R232, R239): delimiter and length are queued raw, most significant byte first. -/
def execTxLenL (d : Byte) (s : State) : Result :=
  let len := lengthOf s.txLenHi d
  .next (if s.txOpen || len == 0 then raiseCmdErr s
    else done { enqueue [delim, s.txLenHi, d] s with txRem := len, txSum := ckClear, txOpen := true })

/-- `TX_BYTE d` (R233): the sum takes the logical byte, the queue its encoding. -/
def execTxByte (d : Byte) (s : State) : Result :=
  .next (if !s.txOpen || s.txRem == 0 then raiseCmdErr s
    else done { enqueue (encodeByte d) s with txSum := ckAdd s.txSum d, txRem := s.txRem - 1 })

/-- `TX_END` (R234): the checksum is escaped if it is special. -/
def execTxEnd (s : State) : Result :=
  .next (if !s.txOpen || s.txRem != 0 then raiseCmdErr s
    else done { enqueue (encodeByte (ckValue s.txSum)) s with txOpen := false })

/-- `TX_ABORT` (R236): never an error; what is queued stays queued. -/
def execTxAbort (s : State) : Result := .next (done { s with txOpen := false, txRem := 0 })

end Sys2Proof.Machine
end

