-- ==== Sys2Proof/Machine/Control.lean ====
section
/-! DEFINITION. The control commands (44_control.md R251 to R254). -/

namespace Sys2Proof.Machine

/-- `NOP` (R251). -/
def execNop (s : State) : Result := .next (done s)

/-- `PRS_CTRL run=r` (R252): a stop abandons a frame attempt silently and keeps a completed record. -/
def execPrsCtrl (r : Bool) (s : State) : Result :=
  let s1 := if !r && s.ps.midFrame then abandonQuietly s else s
  .next (done { s1 with run := r })

/-- `TMO_SET i, d` (R253). -/
def execTmoSet (i : BitVec 2) (d : Byte) (s : State) : Result :=
  .next (done { s with tmo := setByteLane i d s.tmo })

/-- What `REG_RD` does with any selector (R254): the value, then the clear of selector 7; a reserved selector is
a command error. -/
def registerRead (sel : BitVec 4) (s : State) : State :=
  match readRegister sel s with
  | none => raiseCmdErr s
  | some v => respondWord v (if sel.toNat = 7 then { s with cmdErr := false } else s)

/-- `REG_RD s` with a defined selector (R254). -/
def execRegRd (sel : BitVec 4) (s : State) : Result := .next (registerRead sel s)

/-- `REG_RD s` with a reserved selector (R108, R254). -/
def execRegRdReserved (sel : BitVec 4) (s : State) : Result := .next (registerRead sel s)

end Sys2Proof.Machine
end

