-- ==== Sys2Proof/Machine/Frame.lean ====
section
/-! DEFINITION. Frame dispatch: what a type tag does when the frame that carries it completes with a good checksum
(42_parser.md R190, R194, R195, R200, R201; 30_encoding.md R111 to R113), and the meaning of each registry row as the
dispatch to its class (log 6). -/

namespace Sys2Proof.Machine

/-- The end of a frame attempt with a record (R194): the frame-out registers, the event, `COMPLETE`. -/
def completeFrame (kind : FoKind) (cls fault : Byte) (e : EventName) (s : State) : State :=
  { emit e s with foKind := kind, foClass := cls, foFault := fault, rxEsc := false, ps := .complete }

/-- The verdict of the variant check carried out (R194, R200, R201). -/
def applyVerdict (v : Verdict) (cls : Byte) (s : State) : State :=
  match v with
  | .lenMismatch => abandon .lenMismatch s
  | .fault c => completeFrame .errorMarker cls c .variantFault s
  | .ok => completeFrame (if cls = 0 then .generic else .typed) cls 0x00 .frameOk s

/-- Dispatch of the frame in the buffer to a class: the variant check, then its verdict (R194). -/
def dispatchFrame (cfg : Config) (tag cls : Byte) (s : State) : State :=
  applyVerdict (cfg.variantCheck cls tag (frameBody s)) cls s

/-- How a completed frame's tag is carried out. -/
abbrev Dispatcher := Byte → State → Result

/-- The dispatcher of a block with the given parameters: `class(t) = REGISTRY(t)` (R190). -/
def registryDispatcher (cfg : Config) : Dispatcher :=
  fun tag s => .next (dispatchFrame cfg tag (cfg.registry tag) s)

/-- Row `FRAME_TX_REQ_64`: tag `0x00`, class 1 (R112). -/
def execFrameTxReq64 (s : State) : Result := .next (dispatchFrame Config.impl 0x00 1 s)

/-- Row `FRAME_TX_REQ_16`: tag `0x01`, class 2 (R112). -/
def execFrameTxReq16 (s : State) : Result := .next (dispatchFrame Config.impl 0x01 2 s)

/-- Row `FRAME_AT_CMD`: tag `0x08`, class 3 (R112). -/
def execFrameAtCmd (s : State) : Result := .next (dispatchFrame Config.impl 0x08 3 s)

/-- Row `FRAME_ZB_TX_REQ`: tag `0x10`, class 4 (R112). -/
def execFrameZbTxReq (s : State) : Result := .next (dispatchFrame Config.impl 0x10 4 s)

/-- Row `FRAME_EXPLICIT_TX`: tag `0x11`, class 5 (R112). -/
def execFrameExplicitTx (s : State) : Result := .next (dispatchFrame Config.impl 0x11 5 s)

/-- Row `FRAME_REMOTE_AT_REQ`: tag `0x17`, class 6 (R112). -/
def execFrameRemoteAtReq (s : State) : Result := .next (dispatchFrame Config.impl 0x17 6 s)

/-- Row `FRAME_RX_64`: tag `0x80`, class 7 (R112). -/
def execFrameRx64 (s : State) : Result := .next (dispatchFrame Config.impl 0x80 7 s)

/-- Row `FRAME_RX_16`: tag `0x81`, class 8 (R112). -/
def execFrameRx16 (s : State) : Result := .next (dispatchFrame Config.impl 0x81 8 s)

/-- Row `FRAME_AT_RSP`: tag `0x88`, class 9 (R112). -/
def execFrameAtRsp (s : State) : Result := .next (dispatchFrame Config.impl 0x88 9 s)

/-- Row `FRAME_TX_STATUS`: tag `0x89`, class 10 (R112). -/
def execFrameTxStatus (s : State) : Result := .next (dispatchFrame Config.impl 0x89 10 s)

/-- Row `FRAME_MODEM_STATUS`: tag `0x8A`, class 11 (R112, R114). -/
def execFrameModemStatus (s : State) : Result := .next (dispatchFrame Config.impl 0x8A 11 s)

/-- Row `FRAME_ZB_TX_STATUS`: tag `0x8B`, class 12 (R112). -/
def execFrameZbTxStatus (s : State) : Result := .next (dispatchFrame Config.impl 0x8B 12 s)

/-- Row `FRAME_ZB_RX`: tag `0x90`, class 13 (R112). -/
def execFrameZbRx (s : State) : Result := .next (dispatchFrame Config.impl 0x90 13 s)

/-- Row `FRAME_EXPLICIT_RX`: tag `0x91`, class 14 (R112). -/
def execFrameExplicitRx (s : State) : Result := .next (dispatchFrame Config.impl 0x91 14 s)

/-- Row `FRAME_REMOTE_AT_RSP`: tag `0x97`, class 15 (R112). -/
def execFrameRemoteAtRsp (s : State) : Result := .next (dispatchFrame Config.impl 0x97 15 s)

/-- Row `FRAME_GENERIC`: any other tag, class 0 (R111). -/
def execFrameGeneric (tag : Byte) (s : State) : Result := .next (dispatchFrame Config.impl tag 0 s)

end Sys2Proof.Machine
end

