-- ==== Sys2Proof/Machine/Dispatch.lean ====
section
/-! DEFINITION. One arm per row of the opcode table: the meaning of each instruction (44_control.md R250). -/

namespace Sys2Proof.Machine

def exec (i : Instr) (s : State) : Host.Outcome State Fault Refusal :=
  match i with
  | .nop => Sys2Proof.Machine.execNop s
  | .ckClear => Sys2Proof.Machine.execCkClear s
  | .ckAdd d => Sys2Proof.Machine.execCkAdd d s
  | .ckValue => Sys2Proof.Machine.execCkValue s
  | .ckVerify d => Sys2Proof.Machine.execCkVerify d s
  | .escEnc d => Sys2Proof.Machine.execEscEnc d s
  | .escDec w => Sys2Proof.Machine.execEscDec w s
  | .escClr => Sys2Proof.Machine.execEscClr s
  | .txLenH d => Sys2Proof.Machine.execTxLenH d s
  | .txLenL d => Sys2Proof.Machine.execTxLenL d s
  | .txByte d => Sys2Proof.Machine.execTxByte d s
  | .txEnd => Sys2Proof.Machine.execTxEnd s
  | .txAbort => Sys2Proof.Machine.execTxAbort s
  | .prsCtrl r => Sys2Proof.Machine.execPrsCtrl r s
  | .tmoSet lane d => Sys2Proof.Machine.execTmoSet lane d s
  | .regRd sel => Sys2Proof.Machine.execRegRd sel s
  | .regRdReserved sel => Sys2Proof.Machine.execRegRdReserved sel s
  | .frameTxReq64 => Sys2Proof.Machine.execFrameTxReq64 s
  | .frameTxReq16 => Sys2Proof.Machine.execFrameTxReq16 s
  | .frameAtCmd => Sys2Proof.Machine.execFrameAtCmd s
  | .frameZbTxReq => Sys2Proof.Machine.execFrameZbTxReq s
  | .frameExplicitTx => Sys2Proof.Machine.execFrameExplicitTx s
  | .frameRemoteAtReq => Sys2Proof.Machine.execFrameRemoteAtReq s
  | .frameRx64 => Sys2Proof.Machine.execFrameRx64 s
  | .frameRx16 => Sys2Proof.Machine.execFrameRx16 s
  | .frameAtRsp => Sys2Proof.Machine.execFrameAtRsp s
  | .frameTxStatus => Sys2Proof.Machine.execFrameTxStatus s
  | .frameModemStatus => Sys2Proof.Machine.execFrameModemStatus s
  | .frameZbTxStatus => Sys2Proof.Machine.execFrameZbTxStatus s
  | .frameZbRx => Sys2Proof.Machine.execFrameZbRx s
  | .frameExplicitRx => Sys2Proof.Machine.execFrameExplicitRx s
  | .frameRemoteAtRsp => Sys2Proof.Machine.execFrameRemoteAtRsp s
  | .frameGeneric tag => Sys2Proof.Machine.execFrameGeneric tag s

end Sys2Proof.Machine
end

