-- ==== Sys2Proof/Machine/Parser.lean ====
section
/-! DEFINITION. The frame parser's events (42_parser.md): an accepted byte in each state (R181 to R194), a cycle
without one (R196), the acceptance of a record (R208), and the record and body read port (R205 to R207). -/

namespace Sys2Proof.Machine

/-- A byte in `AWAIT_DELIM` (R183): a delimiter starts a frame, every other byte is discarded. -/
def rxAwaitDelim (b : Byte) (s : State) : State :=
  if b = delim then
    { s with rxSum := ckClear, rxCnt := 0, rxEsc := false, idleCnt := 0, ps := .readLenMsb }
  else s

/-- A byte in `READ_LEN_MSB`, raw (R184). -/
def rxLenMsb (b : Byte) (s : State) : State := { s with lenHi := b, ps := .readLenLsb }

/-- A byte in `READ_LEN_LSB`, raw (R185): length zero and an oversize length abandon the attempt at once. -/
def rxLenLsb (cfg : Config) (b : Byte) (s : State) : State :=
  let len := lengthOf s.lenHi b
  let s1 := { s with frameLen := len }
  if len = 0 then abandon .lenZero s1
  else if cfg.maxBody < len.toNat - 1 then abandon .lenOversize s1
  else { s1 with ps := .readType }

/-- The logical type byte (R192). -/
def logicalType (v : Byte) (s : State) : State :=
  { s with
    ftype := v
    rxSum := ckAdd s.rxSum v
    rxCnt := 1
    ps := if s.frameLen = 1 then .readCksum else .readBody }

/-- A logical body byte (R193): written at index `rx_cnt - 1`, summed, counted. -/
def logicalBody (v : Byte) (s : State) : State :=
  { bodyWrite (s.rxCnt - 1).toNat v s with
    rxSum := ckAdd s.rxSum v
    rxCnt := s.rxCnt + 1
    ps := if s.rxCnt + 1 = s.frameLen then .readCksum else .readBody }

/-- The logical checksum byte (R194, R195): verified first, and only then is the frame dispatched by its tag. -/
def logicalCksum (disp : Dispatcher) (v : Byte) (s : State) : Result :=
  let s1 := { s with rxCk := v }
  if ckVerify s.rxSum v then disp s.ftype s1 else .next (abandon .cksumFail s1)

/-- A logical byte delivered to the state that reads it (R191). -/
def deliver (disp : Dispatcher) (v : Byte) (s : State) : Result :=
  match s.ps with
  | .readType => .next (logicalType v s)
  | .readBody => .next (logicalBody v s)
  | .readCksum => logicalCksum disp v s
  | .awaitDelim => .next s
  | .readLenMsb => .next s
  | .readLenLsb => .next s
  | .complete => .next s

/-- A wire byte in `READ_TYPE`, `READ_BODY` or `READ_CKSUM` (R191): through the decoder, an unescaped special byte
reported, a logical byte delivered. -/
def rxEscaped (disp : Dispatcher) (b : Byte) (s : State) : Result :=
  let d := decodeStep s.rxEsc b
  let s1 := { s with rxEsc := d.pending }
  let s2 := if d.flag then emit .unescSpecial s1 else s1
  match d.out with
  | none => .next s2
  | some v => deliver disp v s2

/-- `RxByte(b)` (R181, R182). No byte is accepted (R180) in `COMPLETE`, where the model leaves the state as it is (log 12),
nor with `run = 0`, where the model processes it as with `run = 1` (log 21). -/
def rxByte (cfg : Config) (disp : Dispatcher) (b : Byte) (s : State) : Result :=
  let s0 := { s with idleCnt := 0 }
  match s.ps with
  | .awaitDelim => .next (rxAwaitDelim b s0)
  | .readLenMsb => .next (rxLenMsb b s0)
  | .readLenLsb => .next (rxLenLsb cfg b s0)
  | .readType => rxEscaped disp b s0
  | .readBody => rxEscaped disp b s0
  | .readCksum => rxEscaped disp b s0
  | .complete => .next s

/-- The idle counter's next value, saturating at `0xFFFFFFFF` (R196, R286). -/
def idleSucc (n : Word32) : Word32 := if n = 0xFFFFFFFF then n else n + 1

/-- `Tick` (R196): counts only mid-frame with `run = 1`; `tmo = 0` disables the timeout. -/
def tick (s : State) : State :=
  if s.run && s.ps.midFrame then
    let s1 := { s with idleCnt := idleSucc s.idleCnt }
    if s1.tmo ≠ 0 ∧ s1.tmo.toNat ≤ s1.idleCnt.toNat then abandon .timeout s1 else s1
  else s

/-- `FoAccept` (R208). Outside `COMPLETE`, where it is not enabled, `ps` becomes `AWAIT_DELIM` too (log 21). -/
def foAccept (s : State) : State := { s with ps := .awaitDelim }

/-- The event `Timeout` of the untimed abstraction (R198): what a `Tick` that reaches `tmo` does to the rest. -/
def timeoutEvent (s : State) : State := abandon .timeout s

/-- A frame-out record (R205, R206). -/
structure FrameRecord where
  kind : FoKind
  cls : Byte
  tag : Byte
  len : Word16
  cksum : Byte
  fault : Byte
  body : List Byte
deriving DecidableEq, Repr

/-- The record the frame-out port offers while `ps = COMPLETE` (R206). -/
def frameRecord (s : State) : FrameRecord :=
  ⟨s.foKind, s.foClass, s.ftype, s.frameLen, s.rxCk, s.foFault, frameBody s⟩

/-- The body read port `fo_rd_data` (R207). -/
def foRdData (addr : Word16) (s : State) : Byte :=
  if s.ps = .complete ∧ addr.toNat < s.frameLen.toNat - 1 then bodyRead addr.toNat s else 0x00

end Sys2Proof.Machine
end

