-- ==== Sys2Proof/Machine/Ports.lean ====
section
/-! DEFINITION. The ports: the ready and valid signals (20_memory.md R86, R87, R89), forced to 0 during reset
(R90, 70_reset_and_hazards.md R300), and all output signals of a cycle (R83). -/

namespace Sys2Proof.Machine

/-- `rx_ready` from the state (R86). -/
def rxReady (s : State) : Bool := s.run && decide (s.ps ≠ .complete)

/-- `fo_valid` from the state (R44, R89). -/
def foValid (s : State) : Bool := decide (s.ps = .complete)

/-- `tx_valid` from the state (R87). -/
def txValid (s : State) : Bool := !s.txq.isEmpty

/-- `cmd_ready` from the state: at least three free entries of `txq` (R87, R311). -/
def cmdReady (cfg : Config) (s : State) : Bool := decide (s.txq.length + 3 ≤ cfg.txqDepth)

/-- The output signals of one cycle (R83). The record is absent while `fo_valid = 0`, the response while `rsp_valid = 0`,
and `tx_data` while there is no head of `txq` for it to be (log 9). -/
structure PortOutputs where
  rxReady : Bool
  foValid : Bool
  foRecord : Option FrameRecord
  foRdData : Byte
  txValid : Bool
  txData : Option Byte
  cmdReady : Bool
  rspValid : Bool
  rsp : Option Response
  ev : BitVec 9
deriving DecidableEq, Repr

/-- The outputs during the cycle that ends at the edge with the given inputs (R83, R90, R207, R300). A reset cycle forces
the ready and valid signals to 0 and nothing else: `tx_data` stays the head of `txq` (R87). -/
def portOutputs (cfg : Config) (inp : PortInputs) (s : State) : PortOutputs where
  rxReady := !inp.rst && rxReady s
  foValid := !inp.rst && foValid s
  foRecord := if !inp.rst && foValid s then some (frameRecord s) else none
  foRdData := foRdData inp.foRdAddr s
  txValid := !inp.rst && txValid s
  txData := s.txq.head?
  cmdReady := !inp.rst && cmdReady cfg s
  rspValid := s.rsp.isSome
  rsp := s.rsp
  ev := s.ev

end Sys2Proof.Machine
end

