-- ==== Sys2Proof/Machine/Cycle.lean ====
section
/-! DEFINITION. The event model and the cycle model (00_scope.md R7; 20_memory.md R87, R88; 42_parser.md R180): the
events and when each is enabled, what each does, and the ordered events of one clock edge. -/

namespace Sys2Proof.Machine

/-- The events of the block (R7). -/
inductive Event where
  | txPop
  | foAccept
  | rxByte (b : Byte)
  | tick
  | cmd (w : Word16)
  | reset
deriving DecidableEq, Repr

/-- When an event can happen (R87, R180, R208); `Cmd`, `Tick` and `Reset` always can in the event model. -/
def eventEnabled (e : Event) (s : State) : Bool :=
  match e with
  | .txPop => txValid s
  | .foAccept => foValid s
  | .rxByte _ => rxReady s
  | .tick => true
  | .cmd _ => true
  | .reset => true

/-- `TxPop` (R52, R87): the head of the queue leaves. On an empty queue, where it is not enabled, nothing changes (log 21). -/
def txPop (s : State) : State := { s with txq := s.txq.tail }

/-- The reset edge (R300): every register at its reset value, no pulse, what the environment offers next kept. -/
def resetEdge (cfg : Config) (s : State) : State := { State.resetOf cfg with inputs := s.inputs }

/-- `Cmd(w)` (R250): decode the word and run the one instruction it is. -/
def runCommand (w : Word16) (s : State) : Result := exec (decodeCommand w) s

/-- The dispatcher of the machine: the instruction the completed frame's tag decodes to is run (R190, R194, log 6). -/
def runTag : Dispatcher := fun tag s => exec (decodeTag tag) s

/-- What an event does to the state: its rule's pseudocode as written. Where `eventEnabled` is false the spec gives an event
no effect, and that the pseudocode is applied there too is the model's choice (log 12, log 21). -/
def applyEvent (cfg : Config) (disp : Dispatcher) (e : Event) (s : State) : Result :=
  match e with
  | .txPop => .next (txPop s)
  | .foAccept => .next (foAccept s)
  | .rxByte b => rxByte cfg disp b s
  | .tick => .next (tick s)
  | .cmd w => runCommand w s
  | .reset => .next (resetEdge cfg s)

/-- Events one after the other, each on the state the one before left. -/
def applyEvents (cfg : Config) (disp : Dispatcher) : List Event → State → Result
  | [], s => .next s
  | e :: es, s => andThen (applyEvent cfg disp e s) (applyEvents cfg disp es)

/-- The events of one edge, in the order of R88, every ready and valid computed from the state at its start. -/
def cycleEvents (cfg : Config) (inp : PortInputs) (s : State) : List Event :=
  if inp.rst then [.reset]
  else
    (if txValid s && inp.txReady then [.txPop] else [])
      ++ (if foValid s && inp.foReady then [.foAccept] else [])
      ++ (if inp.rxValid && rxReady s then [.rxByte inp.rxData] else [.tick])
      ++ (if inp.cmdValid && cmdReady cfg s then [.cmd inp.cmdWord] else [])

/-- One clock edge (R88, R90): last cycle's pulses end, then the edge's events happen in order. -/
def cycle (cfg : Config) (disp : Dispatcher) (inp : PortInputs) (s : State) : Result :=
  applyEvents cfg disp (cycleEvents cfg inp s) (clearPulses s)

/-- One event of the event model on its own, its pulses not mixed with an earlier event's (R7, R90). -/
def eventStep (cfg : Config) (disp : Dispatcher) (e : Event) (s : State) : Result :=
  applyEvent cfg disp e (clearPulses s)

/-- What the environment offers at the next edge; nothing, where the list has ended (log 5). -/
def nextInputs (s : State) : PortInputs := s.inputs.headD PortInputs.idle

/-- The state with the next edge's inputs taken off the list. -/
def takeInputs (s : State) : State := { s with inputs := s.inputs.tail }

/-- The edge at which the host offers a command word and nothing else happens. -/
def offerCommand (w : Word16) : PortInputs := { PortInputs.idle with cmdValid := true, cmdWord := w }

/-- The edge at which a wire byte is offered and nothing else happens. -/
def offerByte (b : Byte) : PortInputs := { PortInputs.idle with rxValid := true, rxData := b }

/-- The state in which the next edge runs a command word (log 7): the word offered, and a queue with too few free
entries emptied, since no command is accepted then (R87). -/
def placeCommand (w : Word16) (s : State) : State :=
  { s with
    txq := if cmdReady Config.impl s then s.txq else []
    inputs := offerCommand w :: s.inputs }

/-- The state in which the next edge completes a frame of one logical byte, the given type tag (log 7): the running
parser waits for the checksum, and the wire byte that completes it is offered. -/
def placeTag (t : Byte) (s : State) : State :=
  let ck := ckValue t
  { s with
    run := true
    ps := .readCksum
    frameLen := 1
    rxCnt := 1
    ftype := t
    rxSum := t
    rxEsc := isSpecial ck
    inputs := offerByte (if isSpecial ck then ck ^^^ escXor else ck) :: s.inputs }

end Sys2Proof.Machine
end

