-- ==== Sys2Proof/Machine/Step.lean ====
section
/-! DEFINITION. One step of the machine: one rising clock edge (20_memory.md R88) at what the environment offers next
(log 5, log 15), and the state in which the next step runs a given table word (log 7). -/

namespace Sys2Proof.Machine

/-- One clock edge. Command words and the tags of completed frames run through `exec`. -/
def step (s : State) : Host.Outcome State Fault Refusal :=
  cycle Config.impl runTag (nextInputs s) (takeInputs s)

/-- The state whose next step runs exactly the instruction of a table word: 16 bits is a command word on the command
port, 8 bits the type tag of a frame about to complete (log 7). -/
def State.withFetchWord (s : State) (nbits w : Nat) : State :=
  match nbits with
  | 16 => placeCommand (BitVec.ofNat 16 w) s
  | 8 => placeTag (BitVec.ofNat 8 w) s
  | _ => s

end Sys2Proof.Machine
end

