-- ==== Sys2Proof/Machine/Stream.lean ====
section
/-! DEFINITION. Whole streams and command sequences: the parser's stream function (42_parser.md R204), the composer's
wire bytes (43_composer.md R235), and the pseudo-instructions with their expansions (30_encoding.md R116). -/

namespace Sys2Proof.Machine

/-- What a byte stream gives (R204): the records in order, the event words that are not 0 in order, the state at
the end. -/
structure ParseResult where
  records : List FrameRecord
  events : List (BitVec 9)
  final : State
deriving DecidableEq, Repr

/-- A result put behind what one byte gave before it. -/
def ParseResult.after (records : List FrameRecord) (events : List (BitVec 9)) (r : ParseResult) : ParseResult :=
  ⟨records ++ r.records, events ++ r.events, r.final⟩

/-- `parse(bs)` (R204) from a given state: each byte accepted, each record accepted at once, no `Tick`. R204 starts
from `run = 1`; from `run = 0` the bytes are processed all the same (log 21). The stream ends where a byte
stops the machine, which no byte does (R281). -/
def parseFrom (cfg : Config) (disp : Dispatcher) : List Byte → State → ParseResult
  | [], s => ⟨[], [], s⟩
  | b :: bs, s =>
    match rxByte cfg disp b (clearPulses s) with
    | .next s1 =>
      if s1.ps = .complete then
        ParseResult.after [frameRecord s1] [s1.ev] (parseFrom cfg disp bs (foAccept s1))
      else if s1.ev = 0 then parseFrom cfg disp bs s1
      else ParseResult.after [] [s1.ev] (parseFrom cfg disp bs s1)
    | .fault _ => ⟨[], [], s⟩
    | .refused _ => ⟨[], [], s⟩

/-- The checksum of a frame with the given tag and body (R140, R235). -/
def frameChecksum (tag : Byte) (body : List Byte) : Byte := ckValue (ckSum (tag :: body))

/-- The length field of a frame with the given body (R235). -/
def frameLength (body : List Byte) : Word16 := BitVec.ofNat 16 (1 + body.length)

/-- `compose(t, body)` (R235), for bodies of at most 65534 bytes. -/
def compose (tag : Byte) (body : List Byte) : List Byte :=
  [delim, highByte (frameLength body), lowByte (frameLength body)]
    ++ escape ([tag] ++ body ++ [frameChecksum tag body])

/-- A sequence of instructions, each run as an accepted command is (R250). -/
def execAll : List Instr → State → Result
  | [], s => .next s
  | i :: is, s => andThen (exec i s) (execAll is)

/-- `START` (R116). -/
def pseudoStart : List Instr := [.prsCtrl true]

/-- `STOP` (R116). -/
def pseudoStop : List Instr := [.prsCtrl false]

/-- `STATUS` (R116). -/
def pseudoStatus : List Instr := [.regRd 0]

/-- `TMO_SET32 v` (R116). -/
def pseudoTmoSet32 (v : Word32) : List Instr :=
  [.tmoSet 0 (byteLane 0 v), .tmoSet 1 (byteLane 1 v), .tmoSet 2 (byteLane 2 v), .tmoSet 3 (byteLane 3 v)]

/-- `TX_LEN L` (R116). -/
def pseudoTxLen (len : Word16) : List Instr := [.txLenH (highByte len), .txLenL (lowByte len)]

/-- `TX_FRAME t, b0, ..., bk` (R116). -/
def pseudoTxFrame (tag : Byte) (body : List Byte) : List Instr :=
  pseudoTxLen (frameLength body) ++ [.txByte tag] ++ body.map .txByte ++ [.txEnd]

/-- `CK_OF b0, ..., bk` (R116). -/
def pseudoCkOf (bs : List Byte) : List Instr := [.ckClear] ++ bs.map .ckAdd ++ [.ckValue]

end Sys2Proof.Machine
end

