-- ==== Sys2Proof/Safety.lean ====
section
/-! DEFINITION. What counts as a safe run: the invariant of every reachable state (10_state.md R60 with R36, R42, R51,
R52), the parser's transition table (42_parser.md R187), and the two stalls of the block, which are states and not
faults (60_exceptions.md R281). -/

namespace Sys2Proof.Machine

/-- The sum of the frame data received so far, the type tag and `rx_cnt - 1` body bytes (R60 item 5). -/
def receivedSum (s : State) : Byte := ckSum (s.ftype :: s.bodyBuf.prefixBytes (s.rxCnt.toNat - 1))

/-- The invariant of R60 for a block with the given parameters. R60 item 1 holds by the type of `ps`; the second
sentence of item 7 is about one `Tick` and stands in a statement of its own. -/
structure Inv (cfg : Config) (s : State) : Prop where
  /-- Before the type byte nothing is counted or summed (R183; with R60 item 3). -/
  noneYet : s.ps = .readLenMsb ∨ s.ps = .readLenLsb ∨ s.ps = .readType → s.rxCnt = 0 ∧ s.rxSum = 0
  /-- R60 item 2. -/
  lenBounds : s.ps = .readType ∨ s.ps = .readBody ∨ s.ps = .readCksum ∨ s.ps = .complete →
    1 ≤ s.frameLen.toNat ∧ s.frameLen.toNat ≤ cfg.maxBody + 1
  /-- R60 item 3, `READ_BODY`. -/
  bodyCount : s.ps = .readBody → 1 ≤ s.rxCnt.toNat ∧ s.rxCnt.toNat < s.frameLen.toNat
  /-- R60 item 3, `READ_CKSUM` and `COMPLETE`. -/
  fullCount : s.ps = .readCksum ∨ s.ps = .complete → s.rxCnt = s.frameLen
  /-- R60 item 4. -/
  escState : s.rxEsc = true → s.ps = .readType ∨ s.ps = .readBody ∨ s.ps = .readCksum
  /-- R60 item 5. -/
  sumSoFar : s.ps = .readBody ∨ s.ps = .readCksum ∨ s.ps = .complete → s.rxSum = receivedSum s
  /-- R60 item 6. -/
  verified : s.ps = .complete → s.rxSum + s.rxCk = 0xFF
  /-- R60 item 7, first sentence, and R42. -/
  idleZero : s.ps.midFrame = false → s.idleCnt = 0
  /-- R60 item 8 and R51. -/
  txClosed : s.txOpen = false → s.txRem = 0
  /-- R52: the queue never exceeds its depth in the cycle model. -/
  txqBound : s.txq.length ≤ cfg.txqDepth
  /-- The body buffer keeps its canonical form (R40). -/
  bodyWf : s.bodyBuf.wf
  /-- R40: no byte is held beyond the buffer's capacity. -/
  bodyBound : ∀ c ∈ s.bodyBuf, c.1 < cfg.maxBody

/-- The parser state an event leads to, as the transition table of R187 has it; no row of the table, no transition. -/
def fsmNext (cfg : Config) (e : Event) (s : State) : ParserState :=
  match e with
  | .reset => .awaitDelim
  | .foAccept => if s.ps = .complete then .awaitDelim else s.ps
  | .txPop => s.ps
  | .tick =>
    if s.run ∧ s.ps.midFrame ∧ s.tmo ≠ 0 ∧ s.tmo.toNat ≤ (idleSucc s.idleCnt).toNat then .awaitDelim else s.ps
  | .cmd w => if decodeCommand w = .prsCtrl false ∧ s.ps.midFrame then .awaitDelim else s.ps
  | .rxByte b =>
    match s.ps with
    | .awaitDelim => if b = delim then .readLenMsb else .awaitDelim
    | .readLenMsb => .readLenLsb
    | .readLenLsb =>
      let len := (lengthOf s.lenHi b).toNat
      if 1 ≤ len ∧ len ≤ cfg.maxBody + 1 then .readType else .awaitDelim
    | .readType =>
      if b = escByte ∧ s.rxEsc = false then .readType
      else if s.frameLen = 1 then .readCksum else .readBody
    | .readBody =>
      if b = escByte ∧ s.rxEsc = false then .readBody
      else if s.rxCnt + 1 = s.frameLen then .readCksum else .readBody
    | .readCksum =>
      match (decodeStep s.rxEsc b).out with
      | none => .readCksum
      | some v =>
        if ckVerify s.rxSum v ∧ cfg.variantCheck (cfg.registry s.ftype) s.ftype (frameBody s) ≠ .lenMismatch
        then .complete else .awaitDelim
    | .complete => .complete

/-- Each event of a list is enabled in the state it happens in (R7, R180). -/
def enabledAlong (cfg : Config) (disp : Dispatcher) : List Event → State → Prop
  | [], _ => True
  | e :: es, s => eventEnabled e s = true ∧ ∀ t, applyEvent cfg disp e s = .next t → enabledAlong cfg disp es t

/-- The parser accepts no byte: stopped, or holding a record (R281). -/
def parserStalled (s : State) : Bool := !rxReady s

/-- No command is accepted: fewer than three free entries in the queue (R311). -/
def commandStalled (cfg : Config) (s : State) : Bool := !cmdReady cfg s

end Sys2Proof.Machine
end

