-- ==== Sys2Proof/Certificates/Slice0/Obligations.lean ====
section
/-! DEFINITION. The statements for the provers. Each says which rule of spec/ it formalises. -/

open Sys2Proof Sys2Proof.Machine

/-! ### Reset -/

/-- R31: the reset value of every register the spec gives one (`body_buf` has none, so there is no clause for it). -/
def Obligations.ResetGivesEveryRegisterItsResetValue : Prop :=
  let s := State.reset
  s.run = false ∧ s.ps.code = 0 ∧ s.lenHi = 0x00 ∧ s.frameLen = 0x0000 ∧ s.rxCnt = 0x0000 ∧ s.ftype = 0x00 ∧
  s.rxSum = 0x00 ∧ s.rxEsc = false ∧ s.rxCk = 0x00 ∧ s.idleCnt = 0x00000000 ∧ s.foKind.code = 0 ∧
  s.foClass = 0x00 ∧ s.foFault = 0x00 ∧ s.tmo = Config.impl.defaultTimeout ∧ s.cmdErr = false ∧ s.txOpen = false ∧
  s.txLenHi = 0x00 ∧ s.txRem = 0x0000 ∧ s.txSum = 0x00 ∧ s.txq = [] ∧ s.hcSum = 0x00 ∧ s.hdEsc = false

/-- R300: an edge with `rst = 1` leaves every register at its reset value and no pulse, whatever else is offered and
whatever the state was; during that cycle the four ready and valid signals are 0. -/
def Obligations.ResetEdgeDominatesEveryEvent : Prop :=
  ∀ (cfg : Config) (disp : Dispatcher) (inp : PortInputs) (s : State), inp.rst = true →
    (∃ t, cycle cfg disp inp s = .next t ∧
      t.run = false ∧ t.ps = .awaitDelim ∧ t.lenHi = 0 ∧ t.frameLen = 0 ∧ t.rxCnt = 0 ∧ t.ftype = 0 ∧ t.rxSum = 0 ∧
      t.rxEsc = false ∧ t.rxCk = 0 ∧ t.idleCnt = 0 ∧ t.foKind = .typed ∧ t.foClass = 0 ∧ t.foFault = 0 ∧
      t.tmo = cfg.defaultTimeout ∧ t.cmdErr = false ∧ t.txOpen = false ∧ t.txLenHi = 0 ∧ t.txRem = 0 ∧
      t.txSum = 0 ∧ t.txq = [] ∧ t.hcSum = 0 ∧ t.hdEsc = false ∧ t.rsp = none ∧ t.ev = 0) ∧
    (portOutputs cfg inp s).rxReady = false ∧ (portOutputs cfg inp s).cmdReady = false ∧
    (portOutputs cfg inp s).foValid = false ∧ (portOutputs cfg inp s).txValid = false

/-! ### Commands: what each answers and writes -/

/-- R251: every word with opcode 0 is `NOP`, which responds and changes nothing else. -/
def Obligations.NopOnlyResponds : Prop :=
  ∀ (s : State) (a : BitVec 4) (d : Byte),
    decodeCommand ((0x0#4 ++ a) ++ d) = .nop ∧ exec .nop s = .next { s with rsp := some ⟨false, 0, 0, 0⟩ }

/-- R141 to R144: the four commands on the host's checksum instance: the words of each, with `A` and where no operand is
used `D` ignored, and its result in every state, with nothing else changed. -/
def Obligations.HostChecksumCommandResults : Prop :=
  ∀ (s : State) (a : BitVec 4) (d : Byte),
    (decodeCommand ((0x1#4 ++ a) ++ d) = .ckClear ∧
      exec .ckClear s = .next { s with hcSum := 0x00, rsp := some ⟨false, 0, 0, 0⟩ }) ∧
    (decodeCommand ((0x2#4 ++ a) ++ d) = .ckAdd d ∧
      exec (.ckAdd d) s = .next { s with hcSum := s.hcSum + d, rsp := some ⟨false, 0, 0, 0⟩ }) ∧
    (decodeCommand ((0x3#4 ++ a) ++ d) = .ckValue ∧
      exec .ckValue s = .next { s with rsp := some ⟨false, 1, 0xFF - s.hcSum, 0⟩ }) ∧
    (decodeCommand ((0x4#4 ++ a) ++ d) = .ckVerify d ∧
      exec (.ckVerify d) s =
        .next { s with rsp := some ⟨false, 1, if s.hcSum + d = 0xFF then 0x01 else 0x00, 0⟩ })

/-- R167 to R169: the three host codec commands: the words of each, and its result in every state, with nothing else
changed. -/
def Obligations.HostCodecCommandResults : Prop :=
  ∀ (s : State) (a : BitVec 4) (d : Byte),
    (decodeCommand ((0x5#4 ++ a) ++ d) = .escEnc d ∧
      exec (.escEnc d) s =
        .next (if d = delim ∨ d = escByte ∨ d = xonByte ∨ d = xoffByte then
            { s with rsp := some ⟨false, 2, escByte, d ^^^ escXor⟩ }
          else { s with rsp := some ⟨false, 1, d, 0⟩ })) ∧
    (decodeCommand ((0x6#4 ++ a) ++ d) = .escDec d ∧
      exec (.escDec d) s =
        .next (if s.hdEsc = true then
            { s with hdEsc := false, rsp := some ⟨false, 1, d ^^^ escXor, 0⟩ }
          else if d = escByte then { s with hdEsc := true, rsp := some ⟨false, 0, 0, 0⟩ }
          else { s with hdEsc := false, rsp := some ⟨false, 1, d, 0⟩ })) ∧
    (decodeCommand ((0x7#4 ++ a) ++ d) = .escClr ∧
      exec .escClr s = .next { s with hdEsc := false, rsp := some ⟨false, 0, 0, 0⟩ })

/-- R231 to R234 and R236: the composer's commands: the words of each, and its result in every state, which where the
command is not allowed is the command error and nothing else. -/
def Obligations.ComposerCommandResults : Prop :=
  ∀ (s : State) (a : BitVec 4) (d : Byte),
    let len : Word16 := s.txLenHi ++ d
    let err : State := { s with cmdErr := true, ev := s.ev ||| 0x100#9, rsp := some ⟨true, 0, 0, 0⟩ }
    (decodeCommand ((0x8#4 ++ a) ++ d) = .txLenH d ∧
      exec (.txLenH d) s =
        .next (if s.txOpen = true then err else { s with txLenHi := d, rsp := some ⟨false, 0, 0, 0⟩ })) ∧
    (decodeCommand ((0x9#4 ++ a) ++ d) = .txLenL d ∧
      exec (.txLenL d) s =
        .next (if s.txOpen = true ∨ len = 0 then err
          else { s with
            txq := s.txq ++ [delim, s.txLenHi, d], txRem := len, txSum := 0x00, txOpen := true,
            rsp := some ⟨false, 0, 0, 0⟩ })) ∧
    (decodeCommand ((0xA#4 ++ a) ++ d) = .txByte d ∧
      exec (.txByte d) s =
        .next (if s.txOpen = false ∨ s.txRem = 0 then err
          else { s with
            txq := s.txq ++ encodeByte d, txSum := s.txSum + d, txRem := s.txRem - 1,
            rsp := some ⟨false, 0, 0, 0⟩ })) ∧
    (decodeCommand ((0xB#4 ++ a) ++ d) = .txEnd ∧
      exec .txEnd s =
        .next (if s.txOpen = false ∨ s.txRem ≠ 0 then err
          else { s with
            txq := s.txq ++ encodeByte (0xFF - s.txSum), txOpen := false, rsp := some ⟨false, 0, 0, 0⟩ })) ∧
    (decodeCommand ((0xC#4 ++ a) ++ d) = .txAbort ∧
      exec .txAbort s = .next { s with txOpen := false, txRem := 0, rsp := some ⟨false, 0, 0, 0⟩ })

/-- R237: the composer commands in the states in which they are not allowed change nothing but `cmd_err`, emit
`CMD_ERR`, and respond `(1, 0, 0, 0)`; `TX_ABORT` never does. -/
def Obligations.ComposerCommandErrors : Prop :=
  ∀ (s : State) (d : Byte),
    let len : Word16 := s.txLenHi ++ d
    let err : State := { s with cmdErr := true, ev := s.ev ||| 0x100#9, rsp := some ⟨true, 0, 0, 0⟩ }
    (s.txOpen = true → exec (.txLenH d) s = .next err) ∧
    (s.txOpen = true ∨ len = 0 → exec (.txLenL d) s = .next err) ∧
    (s.txOpen = false ∨ s.txRem = 0 → exec (.txByte d) s = .next err) ∧
    (s.txOpen = false ∨ s.txRem ≠ 0 → exec .txEnd s = .next err) ∧
    exec .txAbort s ≠ .next err

/-- R252: the words of `PRS_CTRL`, whose `A[0]` is the new `run`; a stop abandons a frame attempt without an event and
keeps a completed record. -/
def Obligations.ParserControlResults : Prop :=
  (∀ (a : BitVec 4) (d : Byte), decodeCommand ((0xD#4 ++ a) ++ d) = .prsCtrl (a.getLsbD 0)) ∧
  ∀ s : State,
    exec (.prsCtrl true) s = .next { s with run := true, rsp := some ⟨false, 0, 0, 0⟩ } ∧
    (s.ps = .awaitDelim ∨ s.ps = .complete →
      exec (.prsCtrl false) s = .next { s with run := false, rsp := some ⟨false, 0, 0, 0⟩ }) ∧
    (s.ps = .readLenMsb ∨ s.ps = .readLenLsb ∨ s.ps = .readType ∨ s.ps = .readBody ∨ s.ps = .readCksum →
      exec (.prsCtrl false) s = .next { s with
        ps := .awaitDelim, rxEsc := false, idleCnt := 0, run := false, rsp := some ⟨false, 0, 0, 0⟩ })

/-- R253: the words of `TMO_SET i, d` with `i = A[1:0]`; it writes bits `8i+7 : 8i` of `tmo`, leaves the other three
bytes, and changes nothing else. -/
def Obligations.TimeoutSetWritesOneByte : Prop :=
  (∀ (a : BitVec 4) (d : Byte), decodeCommand ((0xE#4 ++ a) ++ d) = .tmoSet (a.extractLsb' 0 2) d) ∧
  ∀ (s : State) (i : BitVec 2) (d : Byte), ∃ v : Word32,
    exec (.tmoSet i d) s = .next { s with tmo := v, rsp := some ⟨false, 0, 0, 0⟩ } ∧
    v.extractLsb' (8 * i.toNat) 8 = d ∧
    ∀ j : BitVec 2, j ≠ i → v.extractLsb' (8 * j.toNat) 8 = s.tmo.extractLsb' (8 * j.toNat) 8

/-- R33 and R56: the codes of the parser states, and the fields of the `STATUS` word. -/
def Obligations.StatusWordFields : Prop :=
  (ParserState.awaitDelim.code = 0 ∧ ParserState.readLenMsb.code = 1 ∧ ParserState.readLenLsb.code = 2 ∧
    ParserState.readType.code = 3 ∧ ParserState.readBody.code = 4 ∧ ParserState.readCksum.code = 5 ∧
    ParserState.complete.code = 6) ∧
  ∀ s : State,
    (statusWord s).extractLsb' 0 3 = s.ps.code ∧ (statusWord s).getLsbD 3 = s.rxEsc ∧
    (statusWord s).getLsbD 4 = s.run ∧ (statusWord s).getLsbD 5 = s.txOpen ∧
    (statusWord s).getLsbD 6 = s.hdEsc ∧ (statusWord s).getLsbD 7 = s.cmdErr ∧
    (statusWord s).extractLsb' 8 8 = 0x00#8

/-- R254 with R57: the words of `REG_RD`, what each selector responds, high byte first, that only selector 7 writes
anything, `cmd_err`, and that a reserved selector is a command error. -/
def Obligations.RegisterReadResults : Prop :=
  (∀ (a : BitVec 4) (d : Byte),
    decodeCommand ((0xF#4 ++ a) ++ d) = if a.toNat < 8 then .regRd a else .regRdReserved a) ∧
  ∀ s : State,
    let answer (v : Word16) (t : State) : Result :=
      .next { t with rsp := some ⟨false, 2, v.extractLsb' 8 8, v.extractLsb' 0 8⟩ }
    exec (.regRd 0) s = answer (statusWord s) s ∧
    exec (.regRd 1) s = answer s.frameLen s ∧
    exec (.regRd 2) s = answer s.rxCnt s ∧
    exec (.regRd 3) s = answer s.txRem s ∧
    exec (.regRd 4) s = answer (s.tmo.extractLsb' 0 16) s ∧
    exec (.regRd 5) s = answer (s.tmo.extractLsb' 16 16) s ∧
    exec (.regRd 6) s = answer (s.rxSum ++ s.txSum) s ∧
    exec (.regRd 7) s = answer (statusWord s) { s with cmdErr := false } ∧
    ∀ sel : BitVec 4, 8 ≤ sel.toNat → exec (.regRdReserved sel) s =
      .next { s with cmdErr := true, ev := s.ev ||| 0x100#9, rsp := some ⟨true, 0, 0, 0⟩ }

/-- R108: the words that raise a command error by their encoding alone, that is in every state, are exactly `REG_RD`
with `A` in `8 .. 15`. -/
def Obligations.ReservedSelectorIsCommandError : Prop :=
  ∀ w : Word16,
    (∀ s : State, runCommand w s =
      .next { s with cmdErr := true, ev := s.ev ||| 0x100#9, rsp := some ⟨true, 0, 0, 0⟩ }) ↔
    (w.extractLsb' 12 4).toNat = 0xF ∧ 8 ≤ (w.extractLsb' 8 4).toNat

/-- R276: a command word raises the command error exactly in the cases of the list, and then the state after it is
the state before it but for `cmd_err`, the event and the response; in every other case the response has `err = 0`,
and the event word and a set `cmd_err` stay, but for the clear by selector 7. -/
def Obligations.CommandErrorExactlyFromItsCauses : Prop :=
  ∀ (w : Word16) (s : State),
    let op := (w.extractLsb' 12 4).toNat
    let d : Byte := w.extractLsb' 0 8
    let causes : Prop :=
      (op = 0x8 ∧ s.txOpen = true) ∨
      (op = 0x9 ∧ (s.txOpen = true ∨ (s.txLenHi = 0 ∧ d = 0))) ∨
      (op = 0xA ∧ (s.txOpen = false ∨ s.txRem = 0)) ∨
      (op = 0xB ∧ (s.txOpen = false ∨ s.txRem ≠ 0)) ∨
      (op = 0xF ∧ 8 ≤ (w.extractLsb' 8 4).toNat)
    (causes → runCommand w s =
      .next { s with cmdErr := true, ev := s.ev ||| 0x100#9, rsp := some ⟨true, 0, 0, 0⟩ }) ∧
    (¬ causes → ∃ t n b0 b1, runCommand w s = .next t ∧ t.rsp = some ⟨false, n, b0, b1⟩ ∧ t.ev = s.ev ∧
      (t.cmdErr = s.cmdErr ∨ (t.cmdErr = false ∧ op = 0xF ∧ (w.extractLsb' 8 4).toNat = 7)))

/-- R107: every command word gives exactly one response record, with 0 to 2 data bytes and zeros beyond them, and
`(1, 0, 0, 0)` where it reports an error. -/
def Obligations.EveryCommandResponds : Prop :=
  ∀ (w : Word16) (s : State), ∃ (t : State) (r : Response), runCommand w s = .next t ∧ t.rsp = some r ∧
    r.n.toNat ≤ 2 ∧ (r.n.toNat ≤ 1 → r.b1 = 0) ∧ (r.n = 0 → r.b0 = 0) ∧
    (r.err = true → r = ⟨true, 0, 0x00, 0x00⟩)

/-! ### Commands: frames -/

/-- R97: the frame of every command. The parser's registers are unchanged, but that `PRS_CTRL` may change `run`, `ps`,
`rx_esc` and `idle_cnt`; every byte of the body buffer is unchanged; and each other unit's registers are changed by that
unit's commands only. The last clause, that the coming inputs are unchanged, is the model's choice (log 5). -/
def Obligations.CommandsLeaveOtherUnitsAlone : Prop :=
  ∀ (w : Word16) (s t : State), runCommand w s = .next t →
    let op := (w.extractLsb' 12 4).toNat
    -- the parser, but for a stop: PRS_CTRL alone writes run, ps, rx_esc and idle_cnt
    (op ≠ 0xD → t.run = s.run ∧ t.ps = s.ps ∧ t.rxEsc = s.rxEsc ∧ t.idleCnt = s.idleCnt) ∧
    t.lenHi = s.lenHi ∧ t.frameLen = s.frameLen ∧ t.rxCnt = s.rxCnt ∧ t.ftype = s.ftype ∧ t.rxSum = s.rxSum ∧
    t.rxCk = s.rxCk ∧ t.foKind = s.foKind ∧ t.foClass = s.foClass ∧ t.foFault = s.foFault ∧
    (∀ a, t.bodyBuf.read a = s.bodyBuf.read a) ∧
    -- the timeout register: TMO_SET alone
    (op ≠ 0xE → t.tmo = s.tmo) ∧
    -- the composer: TX_LENH, TX_LENL, TX_BYTE, TX_END, TX_ABORT alone
    (op < 0x8 ∨ 0xC < op → t.txOpen = s.txOpen ∧ t.txLenHi = s.txLenHi ∧ t.txRem = s.txRem ∧ t.txSum = s.txSum ∧
      t.txq = s.txq) ∧
    -- the host checksum: CK_CLEAR and CK_ADD alone; the host decoder: ESC_DEC and ESC_CLR alone
    (op ≠ 0x1 ∧ op ≠ 0x2 → t.hcSum = s.hcSum) ∧
    (op ≠ 0x6 ∧ op ≠ 0x7 → t.hdEsc = s.hdEsc) ∧
    t.inputs = s.inputs

/-! ### Type tags: dispatch -/

/-- R112 and R194: each registry row dispatches to its class. The verdict of the variant check on the class, the tag
and the body decides between no record, an error-marker and a typed record; nothing else is changed. Rows other than
`0x8A` are the spec's general knowledge (K3, log 1); the verdict is a parameter (K14, log 13). A row as an instruction is
log 6; that it means the same in a state that is not the end of a frame is the model's choice (log 12). -/
def Obligations.RegistryRowsDispatchToTheirClass : Prop :=
  ∀ row ∈ ([(.frameTxReq64, 0x00, 1), (.frameTxReq16, 0x01, 2), (.frameAtCmd, 0x08, 3), (.frameZbTxReq, 0x10, 4),
      (.frameExplicitTx, 0x11, 5), (.frameRemoteAtReq, 0x17, 6), (.frameRx64, 0x80, 7), (.frameRx16, 0x81, 8),
      (.frameAtRsp, 0x88, 9), (.frameTxStatus, 0x89, 10), (.frameModemStatus, 0x8A, 11), (.frameZbTxStatus, 0x8B, 12),
      (.frameZbRx, 0x90, 13), (.frameExplicitRx, 0x91, 14), (.frameRemoteAtRsp, 0x97, 15)] :
      List (Instr × Byte × Byte)),
    decodeTag row.2.1 = row.1 ∧ Config.impl.registry row.2.1 = row.2.2 ∧
    ∀ s : State, exec row.1 s = .next
      (match Config.impl.variantCheck row.2.2 row.2.1 (frameBody s) with
      | .lenMismatch => { s with ps := .awaitDelim, rxEsc := false, idleCnt := 0, ev := s.ev ||| 0x010#9 }
      | .fault c => { s with
          ps := .complete, rxEsc := false, foKind := .errorMarker, foClass := row.2.2, foFault := c,
          ev := s.ev ||| 0x080#9 }
      | .ok => { s with
          ps := .complete, rxEsc := false, foKind := .typed, foClass := row.2.2, foFault := 0x00,
          ev := s.ev ||| 0x001#9 })

/-- R111 with R200 (a): a tag that no registry row maps has class 0 and always completes as `GENERIC`: it is not an
error. Which tags have a row is log 1; a row as an instruction is log 6, and its meaning in a state that is not the end of
a frame is the model's choice (log 12). -/
def Obligations.UnknownTagCompletesAsGeneric : Prop :=
  ∀ (tag : Byte) (s : State), Config.impl.registry tag = 0 →
    decodeTag tag = .frameGeneric tag ∧
    exec (.frameGeneric tag) s = .next { s with
      ps := .complete, rxEsc := false, foKind := .generic, foClass := 0, foFault := 0x00, ev := s.ev ||| 0x001#9 }

/-- R112 with R200 (b): the source's modem-status frame completes as `TYPED`, class 11, in every instance: by the
dispatch of any valid instance, and by the row's instruction in the machine's own. The row as an instruction is log 6; the
dispatch in a state that is not the end of a frame is the model's choice (log 12). -/
def Obligations.ModemStatusExampleCompletesTyped : Prop :=
  ∀ s : State, frameBody s = [0x06] →
    let t : State := { s with
      ps := .complete, rxEsc := false, foKind := .typed, foClass := 11, foFault := 0x00, ev := s.ev ||| 0x001#9 }
    (∀ cfg : Config, cfg.Valid → cfg.registry 0x8A = 11 ∧ dispatchFrame cfg 0x8A (cfg.registry 0x8A) s = t ∧
      registryDispatcher cfg 0x8A s = .next t) ∧
    Config.impl.registry 0x8A = 11 ∧ decodeTag 0x8A = .frameModemStatus ∧ exec .frameModemStatus s = .next t

/-- R194 and R197: the frame of the dispatch of every tag. The receive registers kept for diagnosis, every byte of the
body buffer, the timeout, the composer, the host units and the response are unchanged. That the coming inputs are
unchanged is the model's choice (log 5); a row as an instruction is log 6, and its meaning in a state that is not the end
of a frame is the model's choice (log 12). -/
def Obligations.DispatchLeavesTheRestAlone : Prop :=
  ∀ (tag : Byte) (s t : State), exec (decodeTag tag) s = .next t →
    t.run = s.run ∧ t.lenHi = s.lenHi ∧ t.frameLen = s.frameLen ∧ t.rxCnt = s.rxCnt ∧ t.ftype = s.ftype ∧
    t.rxSum = s.rxSum ∧ t.rxCk = s.rxCk ∧ (∀ a, t.bodyBuf.read a = s.bodyBuf.read a) ∧ t.tmo = s.tmo ∧
    t.cmdErr = s.cmdErr ∧ t.txOpen = s.txOpen ∧ t.txLenHi = s.txLenHi ∧ t.txRem = s.txRem ∧ t.txSum = s.txSum ∧
    t.txq = s.txq ∧ t.hcSum = s.hcSum ∧ t.hdEsc = s.hdEsc ∧ t.rsp = s.rsp ∧ t.inputs = s.inputs ∧
    (t.ps = .awaitDelim ∧ t.foKind = s.foKind ∧ t.foClass = s.foClass ∧ t.foFault = s.foFault ∨ t.ps = .complete)

/-! ### The parser's events -/

/-- R183 (with R182): the delimiter search. With `run = 0`, where no byte is accepted, this is the model's choice
(log 21). -/
def Obligations.DelimiterSearch : Prop :=
  ∀ (cfg : Config) (disp : Dispatcher) (b : Byte) (s : State), s.ps = .awaitDelim →
    rxByte cfg disp b s = .next
      (if b = delim then
        { s with rxSum := 0x00, rxCnt := 0, rxEsc := false, idleCnt := 0, ps := .readLenMsb }
      else { s with idleCnt := 0 })

/-- R184 and R185 (with R182, R102, R197): both length bytes are taken raw whatever their values, the length is
assembled MSB first and bounded; a length of zero or one over the buffer's capacity abandons the attempt at once. With
`run = 0`, where no byte is accepted, this is the model's choice (log 21). -/
def Obligations.LengthBytesAreRawAndBounded : Prop :=
  ∀ (cfg : Config) (disp : Dispatcher) (b : Byte) (s : State),
    let len : Word16 := BitVec.ofNat 16 (s.lenHi.toNat * 256 + b.toNat)
    (s.ps = .readLenMsb → rxByte cfg disp b s = .next { s with lenHi := b, idleCnt := 0, ps := .readLenLsb }) ∧
    (s.ps = .readLenLsb → rxByte cfg disp b s = .next
      (if len = 0 then
        { s with frameLen := len, ps := .awaitDelim, rxEsc := false, idleCnt := 0, ev := s.ev ||| 0x004#9 }
      else if len.toNat - 1 > cfg.maxBody then
        { s with frameLen := len, ps := .awaitDelim, rxEsc := false, idleCnt := 0, ev := s.ev ||| 0x008#9 }
      else { s with frameLen := len, idleCnt := 0, ps := .readType }))

/-- R191 (with R166, R171): an escape marker in `READ_TYPE`, `READ_BODY` or `READ_CKSUM` only sets `rx_esc`. With `run
= 0`, where no byte is accepted, this is the model's choice (log 21). -/
def Obligations.EscapeMarkerWaitsForItsPair : Prop :=
  ∀ (cfg : Config) (disp : Dispatcher) (s : State),
    s.ps = .readType ∨ s.ps = .readBody ∨ s.ps = .readCksum → s.rxEsc = false →
    rxByte cfg disp escByte s = .next { s with rxEsc := true, idleCnt := 0 }

/-- R192 (with R191, R166): the type byte, unescaped, is stored, summed and counted; an unescaped special byte is data
and is reported. With `run = 0`, where no byte is accepted, this is the model's choice (log 21). -/
def Obligations.TypeByteStartsTheFrameData : Prop :=
  ∀ (cfg : Config) (disp : Dispatcher) (b : Byte) (s : State), s.ps = .readType →
    b ≠ escByte ∨ s.rxEsc = true →
    let v := if s.rxEsc = true then b ^^^ escXor else b
    rxByte cfg disp b s = .next { s with
      ftype := v, rxSum := s.rxSum + v, rxCnt := 1, rxEsc := false, idleCnt := 0,
      ps := if s.frameLen = 1 then .readCksum else .readBody,
      ev := if s.rxEsc = false ∧ (b = delim ∨ b = xonByte ∨ b = xoffByte) then s.ev ||| 0x040#9 else s.ev }

/-- R193 (with R191, R166): a body byte, unescaped, is written at index `rx_cnt - 1`, summed and counted. At `rx_cnt =
0`, which no run reaches in `READ_BODY`, the index wraps to 65535: the model's choice (log 11). With `run = 0`, where
no byte is accepted, this is the model's choice (log 21). -/
def Obligations.BodyByteIsStoredSummedCounted : Prop :=
  ∀ (cfg : Config) (disp : Dispatcher) (b : Byte) (s : State), s.ps = .readBody →
    b ≠ escByte ∨ s.rxEsc = true →
    let v := if s.rxEsc = true then b ^^^ escXor else b
    rxByte cfg disp b s = .next { s with
      bodyBuf := s.bodyBuf.write (s.rxCnt - 1).toNat v, rxSum := s.rxSum + v, rxCnt := s.rxCnt + 1,
      rxEsc := false, idleCnt := 0,
      ps := if s.rxCnt + 1 = s.frameLen then .readCksum else .readBody,
      ev := if s.rxEsc = false ∧ (b = delim ∨ b = xonByte ∨ b = xoffByte) then s.ev ||| 0x040#9 else s.ev }

/-- R194 and R195 (with R190, R191, R166, R197): the checksum byte is stamped and verified first; a mismatch abandons
the attempt, and only a verified frame reaches the variant check, whose verdict decides. With `run = 0`, where no byte
is accepted, this is the model's choice (log 21). -/
def Obligations.ChecksumByteDecidesTheFrame : Prop :=
  ∀ (cfg : Config) (b : Byte) (s : State), s.ps = .readCksum → b ≠ escByte ∨ s.rxEsc = true →
    let v := if s.rxEsc = true then b ^^^ escXor else b
    let ev0 := if s.rxEsc = false ∧ (b = delim ∨ b = xonByte ∨ b = xoffByte) then s.ev ||| 0x040#9 else s.ev
    let cls := cfg.registry s.ftype
    rxByte cfg (registryDispatcher cfg) b s = .next
      (if s.rxSum + v = 0xFF then
        match cfg.variantCheck cls s.ftype (frameBody s) with
        | .lenMismatch => { s with
            rxCk := v, ps := .awaitDelim, rxEsc := false, idleCnt := 0, ev := ev0 ||| 0x010#9 }
        | .fault c => { s with
            rxCk := v, ps := .complete, rxEsc := false, idleCnt := 0, foKind := .errorMarker, foClass := cls,
            foFault := c, ev := ev0 ||| 0x080#9 }
        | .ok => { s with
            rxCk := v, ps := .complete, rxEsc := false, idleCnt := 0,
            foKind := if cls = 0 then .generic else .typed, foClass := cls, foFault := 0x00, ev := ev0 ||| 0x001#9 }
      else { s with rxCk := v, ps := .awaitDelim, rxEsc := false, idleCnt := 0, ev := ev0 ||| 0x002#9 })

/-- R196 (with R197, R286): a cycle without a byte counts only mid-frame with `run = 1`, saturating, and abandons the
attempt when the count reaches a `tmo` that is not 0. -/
def Obligations.TickCountsAndTimesOut : Prop :=
  ∀ s : State,
    let midFrame := s.ps = .readLenMsb ∨ s.ps = .readLenLsb ∨ s.ps = .readType ∨ s.ps = .readBody ∨ s.ps = .readCksum
    let n : Word32 := if s.idleCnt.toNat = 0xFFFFFFFF then s.idleCnt else s.idleCnt + 1
    (s.run = false ∨ ¬ midFrame → tick s = s) ∧
    (s.run = true → midFrame → s.tmo = 0 ∨ n.toNat < s.tmo.toNat → tick s = { s with idleCnt := n }) ∧
    (s.run = true → midFrame → s.tmo ≠ 0 → s.tmo.toNat ≤ n.toNat →
      tick s = { s with ps := .awaitDelim, rxEsc := false, idleCnt := 0, ev := s.ev ||| 0x020#9 })

/-- R60 item 7, second sentence: immediately after a `Tick` that leaves the parser mid-frame with the timeout enabled
and the parser running, the count is below `tmo`. -/
def Obligations.CountBelowTimeoutAfterTick : Prop :=
  ∀ s : State, s.run = true → (tick s).ps.midFrame = true → (tick s).tmo ≠ 0 →
    (tick s).idleCnt.toNat < (tick s).tmo.toNat

/-- R208: accepting a record returns to `AWAIT_DELIM` and changes nothing else; it can happen exactly while a record
is offered, and at an edge it happens exactly when `fo_ready` is 1 there. Its effect outside `COMPLETE`, where it is
not enabled, is the model's choice (log 21). -/
def Obligations.FrameAcceptOnlyLeavesComplete : Prop :=
  ∀ (cfg : Config) (disp : Dispatcher) (inp : PortInputs) (s : State),
    (eventEnabled .foAccept s = true ↔ s.ps = .complete) ∧
    (Event.foAccept ∈ cycleEvents cfg inp s ↔ inp.rst = false ∧ s.ps = .complete ∧ inp.foReady = true) ∧
    applyEvent cfg disp .foAccept s = .next { s with ps := .awaitDelim }

/-- R207 with R312: the body read port gives the body of the offered record and zero everywhere else, and zero at
every index once the record has been accepted. At `frame_len = 0`, which no run reaches in `COMPLETE`, every index
reads zero: the model's choice (log 11). Acceptance outside `COMPLETE` is log 21. -/
def Obligations.BodyReadPortShowsTheBody : Prop :=
  ∀ (s : State) (addr : Word16),
    (s.ps = .complete → addr.toNat + 1 < s.frameLen.toNat → foRdData addr s = s.bodyBuf.read addr.toNat) ∧
    (s.ps ≠ .complete ∨ s.frameLen.toNat ≤ addr.toNat + 1 → foRdData addr s = 0x00) ∧
    foRdData addr (foAccept s) = 0x00

/-- R187: the parser state an enabled event leads to is the one the transition table gives, and no other transition
exists. -/
def Obligations.ParserFollowsTheTransitionTable : Prop :=
  ∀ (cfg : Config) (e : Event) (s : State), eventEnabled e s = true →
    ∃ t, applyEvent cfg (registryDispatcher cfg) e s = .next t ∧ t.ps = fsmNext cfg e s

/-- R84 and R97: the frame of the parser's events. Composer, host units, control registers, response and inputs are
unchanged, and every byte of the body buffer but the one a logical body byte is written to, at index `rx_cnt - 1`.
That the coming inputs are unchanged is the model's choice (log 5), and so is the index's wrap at `rx_cnt = 0`
(log 11). An event where it is not enabled is log 12 and log 21. -/
def Obligations.ParserEventsLeaveOtherUnitsAlone : Prop :=
  ∀ (cfg : Config) (e : Event) (s t : State),
    (e = .tick ∨ e = .foAccept ∨ ∃ b, e = .rxByte b) → s.bodyBuf.wf →
    applyEvent cfg (registryDispatcher cfg) e s = .next t →
    t.run = s.run ∧ t.tmo = s.tmo ∧ t.cmdErr = s.cmdErr ∧ t.txOpen = s.txOpen ∧ t.txLenHi = s.txLenHi ∧
    t.txRem = s.txRem ∧ t.txSum = s.txSum ∧ t.txq = s.txq ∧ t.hcSum = s.hcSum ∧ t.hdEsc = s.hdEsc ∧ t.rsp = s.rsp ∧
    t.inputs = s.inputs ∧
    (∀ a, ¬ (s.ps = .readBody ∧ (∃ b v, e = .rxByte b ∧ (decodeStep s.rxEsc b).out = some v) ∧
        a = (s.rxCnt - 1).toNat) →
      t.bodyBuf.read a = s.bodyBuf.read a) ∧
    (s.ps = .readBody → ∀ b v, e = .rxByte b → (decodeStep s.rxEsc b).out = some v →
      t.bodyBuf.read (s.rxCnt - 1).toNat = v)

/-- R97: the parser reads no register of another unit: other values in the composer, the host units, `cmd_err` and the
response give the same parser step. An event where it is not enabled is log 12 and log 21. -/
def Obligations.ParserStepIgnoresOtherUnits : Prop :=
  ∀ (cfg : Config) (e : Event) (s t : State) (txOpen hdEsc cmdErr : Bool) (txLenHi txSum hcSum : Byte)
    (txRem : Word16) (txq : List Byte) (rsp : Option Response),
    (e = .tick ∨ e = .foAccept ∨ ∃ b, e = .rxByte b) →
    applyEvent cfg (registryDispatcher cfg) e s = .next t →
    applyEvent cfg (registryDispatcher cfg) e { s with
        txOpen := txOpen, hdEsc := hdEsc, cmdErr := cmdErr, txLenHi := txLenHi, txSum := txSum, hcSum := hcSum,
        txRem := txRem, txq := txq, rsp := rsp } =
      .next { t with
        txOpen := txOpen, hdEsc := hdEsc, cmdErr := cmdErr, txLenHi := txLenHi, txSum := txSum, hcSum := hcSum,
        txRem := txRem, txq := txq, rsp := rsp }

/-- R197, R273 and R279: where an event emits an abandonment, the parser is back in `AWAIT_DELIM` with `rx_esc` and
`idle_cnt` cleared, and what the table of R273 keeps readable is kept: the sum, the count, the tag, the body bytes and
the last record's registers; only `LEN_ZERO` and `LEN_OVERSIZE` change `frame_len`, to the offending length. -/
def Obligations.AbandonmentKeepsTheDiagnosis : Prop :=
  ∀ (cfg : Config) (e : Event) (s t : State), eventEnabled e s = true →
    eventStep cfg (registryDispatcher cfg) e s = .next t → t.ev &&& 0x03E#9 ≠ 0 →
    t.ps = .awaitDelim ∧ t.rxEsc = false ∧ t.idleCnt = 0 ∧ t.rxSum = s.rxSum ∧ t.rxCnt = s.rxCnt ∧
    t.ftype = s.ftype ∧ (∀ a, t.bodyBuf.read a = s.bodyBuf.read a) ∧ t.foKind = s.foKind ∧ t.foClass = s.foClass ∧
    t.foFault = s.foFault ∧ t.run = s.run ∧
    (t.ev &&& 0x00C#9 = 0 → t.frameLen = s.frameLen) ∧
    (t.ev &&& 0x00C#9 ≠ 0 → ∃ b, e = .rxByte b ∧ t.frameLen = s.lenHi ++ b)

/-- R198: a `Tick` does nothing to the state but count, or does exactly what the untimed abstraction's `Timeout`
does, and that only where the abstraction enables it. -/
def Obligations.TickIsCountOrUntimedTimeout : Prop :=
  ∀ s : State,
    (∃ n, tick s = { s with idleCnt := n }) ∨
    (s.run = true ∧ s.ps.midFrame = true ∧ tick s = timeoutEvent s)

/-! ### Steps -/

/-- R88 and R250: a step is the clock edge at what the environment offers next (log 5, log 15); where that edge takes a
command, it is the same edge without it, and then `exec` of the instruction the command word decodes to. -/
def Obligations.StepRunsTheOfferedCommand : Prop :=
  ∀ s : State,
    step s = cycle Config.impl runTag (nextInputs s) (takeInputs s) ∧
    ((nextInputs s).rst = false → (nextInputs s).cmdValid = true → cmdReady Config.impl s = true →
      step s = andThen
        (cycle Config.impl runTag { nextInputs s with cmdValid := false } (takeInputs s))
        (fun t => exec (decodeCommand (nextInputs s).cmdWord) t))

/-- R190 and R194: a step that takes the byte completing a verified checksum runs, on the state stamped with it, the
instruction the frame's type tag decodes to (log 6). That the edge's input is taken off the list of coming inputs is the
model's choice (log 5). -/
def Obligations.StepRunsTheCompletedTag : Prop :=
  ∀ (s : State) (v : Byte),
    let inp := nextInputs s
    inp.rst = false → inp.rxValid = true → inp.cmdValid = false → s.run = true → s.ps = .readCksum →
    (decodeStep s.rxEsc inp.rxData).out = some v → s.rxSum + v = 0xFF →
    step s = exec (decodeTag s.ftype) { s with
      txq := if s.txq ≠ [] ∧ inp.txReady = true then s.txq.tail else s.txq,
      rxEsc := false, idleCnt := 0, rxCk := v, rsp := none, inputs := s.inputs.tail,
      ev := if (decodeStep s.rxEsc inp.rxData).flag = true then 0x040#9 else 0 }

/-- From reset, the step of a placed table word is `exec` of the instruction it decodes to: on the reset state for a
command word, and for a type tag on the state stamped with the checksum of a frame of that tag alone (log 7). -/
def Obligations.PlacedWordRunsFirst : Prop :=
  (∀ w, w < 65536 → ∃ i, decodeTableWord 16 w = some i ∧
    step (State.reset.withFetchWord 16 w) = exec i State.reset) ∧
  (∀ w, w < 256 → ∃ i, decodeTableWord 8 w = some i ∧
    step (State.reset.withFetchWord 8 w) = exec i { State.reset with
      run := true, ps := .readCksum, frameLen := 1, rxCnt := 1, ftype := BitVec.ofNat 8 w,
      rxSum := BitVec.ofNat 8 w, rxCk := 0xFF - BitVec.ofNat 8 w })

/-- R7 and R88: a clock edge is its events in the order of R88, every ready and valid computed from the state at the
start, and every one of them is enabled in the state it happens in: a run of the cycle model is a run of the event
model. With R52 and R87: `TxPop` can happen exactly while `txq` holds a byte, and removes exactly its head. -/
def Obligations.EdgeIsAnEventRun : Prop :=
  ∀ (cfg : Config) (disp : Dispatcher) (inp : PortInputs) (s : State),
    let es : List Event :=
      if inp.rst = true then [.reset]
      else
        (if s.txq ≠ [] ∧ inp.txReady = true then [Event.txPop] else [])
          ++ (if s.ps = .complete ∧ inp.foReady = true then [Event.foAccept] else [])
          ++ (if inp.rxValid = true ∧ s.run = true ∧ s.ps ≠ .complete then [Event.rxByte inp.rxData] else [Event.tick])
          ++ (if inp.cmdValid = true ∧ s.txq.length + 3 ≤ cfg.txqDepth then [Event.cmd inp.cmdWord] else [])
    let s0 : State := { s with rsp := none, ev := 0 }
    cycle cfg disp inp s = applyEvents cfg disp es s0 ∧ enabledAlong cfg disp es s0 ∧
    (eventEnabled .txPop s = true ↔ s.txq ≠ []) ∧
    ∀ (b : Byte) (rest : List Byte), s.txq = b :: rest →
      applyEvent cfg disp .txPop s = .next { s with txq := rest }

/-- R281 and R282: no step stops: no byte, no command and no reset puts the block in a fault state, and no
instruction is refused. That the edge's input is taken off the list of coming inputs is the model's choice (log 5). -/
def Obligations.NoStepStops : Prop :=
  ∀ s : State, ∃ t, step s = .next t ∧ t.inputs = s.inputs.tail

/-- R86, R87 and R89: the ready and valid signals outside reset and the record; the queue's head is on `tx_data` in every
cycle, a reset cycle too. That the record and the byte are absent where the spec gives none is log 9. -/
def Obligations.HandshakeSignals : Prop :=
  ∀ (cfg : Config) (inp : PortInputs) (s : State),
    let o := portOutputs cfg inp s
    o.txData = s.txq.head? ∧
    (inp.rst = false →
      (o.rxReady = true ↔ s.run = true ∧ s.ps ≠ .complete) ∧
      (o.foValid = true ↔ s.ps = .complete) ∧
      (o.txValid = true ↔ s.txq ≠ []) ∧
      (o.cmdReady = true ↔ s.txq.length + 3 ≤ cfg.txqDepth) ∧
      (s.ps = .complete → o.foRecord =
        some ⟨s.foKind, s.foClass, s.ftype, s.frameLen, s.rxCk, s.foFault, frameBody s⟩) ∧
      (s.ps ≠ .complete → o.foRecord = none))

/-- R86, R87, R311 and R317: what is offered while its ready signal is 0 is not taken: with fewer than three free
entries of the queue the edge is the edge without the command, and with the parser stopped or holding a record it is
the edge without the byte. -/
def Obligations.WhatIsNotReadyIsNotTaken : Prop :=
  ∀ (inp : PortInputs) (s : State),
    (Config.impl.txqDepth < s.txq.length + 3 →
      cycle Config.impl runTag inp s = cycle Config.impl runTag { inp with cmdValid := false } s) ∧
    (s.run = false ∨ s.ps = .complete →
      cycle Config.impl runTag inp s = cycle Config.impl runTag { inp with rxValid := false } s)

/-- R84, R91 item 2 and R315: a record that is not accepted is held: no step but a reset changes it, its body, or the
count, and none reports a parser event, whatever bytes and commands are offered. -/
def Obligations.RecordIsHeldUntilAccepted : Prop :=
  ∀ s t : State, s.ps = .complete → (nextInputs s).rst = false → (nextInputs s).foReady = false →
    step s = .next t →
    t.ps = .complete ∧ frameRecord t = frameRecord s ∧ t.idleCnt = s.idleCnt ∧ t.ev &&& 0x0FF#9 = 0 ∧
    ∀ addr, foRdData addr t = foRdData addr s

/-- R90 and R310: the pulses of an edge come from that edge alone, and a response appears exactly when the edge took a
command. -/
def Obligations.PulsesComeFromTheirEdge : Prop :=
  ∀ (s : State) (r : Option Response) (e : BitVec 9),
    step { s with rsp := r, ev := e } = step s ∧
    ∃ t, step s = .next t ∧
      (t.rsp.isSome = true ↔
        (nextInputs s).rst = false ∧ (nextInputs s).cmdValid = true ∧ s.txq.length + 3 ≤ Config.impl.txqDepth)

/-- R278: in one edge at most one parser outcome is reported, `TIMEOUT` never with a report of an accepted byte, and
`UNESC_SPECIAL` never with a length error. -/
def Obligations.OneParserOutcomePerEdge : Prop :=
  ∀ s t : State, step s = .next t →
    (t.ev &&& 0x0BF#9 = 0 ∨ ∃ k, k < 8 ∧ t.ev &&& 0x0BF#9 = 1#9 <<< k) ∧
    (t.ev.getLsbD 5 = true → t.ev &&& 0x0DF#9 = 0) ∧
    (t.ev.getLsbD 6 = true → t.ev &&& 0x00C#9 = 0)

/-! ### Invariants -/

/-- The reset state meets the invariant of R60. -/
def Obligations.ResetMeetsTheInvariant : Prop := Inv Config.impl State.reset

/-- R60: every step keeps the invariant, from every state that meets it. -/
def Obligations.StepKeepsTheInvariant : Prop :=
  ∀ s t : State, Inv Config.impl s → step s = .next t → Inv Config.impl t

/-- R36 and R42: what the invariant gives about the counters: a running count never exceeds the frame's length, and
every body byte is written inside the buffer. -/
def Obligations.BodyWritesStayInsideTheBuffer : Prop :=
  ∀ (cfg : Config) (s : State), cfg.Valid → Inv cfg s → s.ps = .readBody →
    (s.rxCnt - 1).toNat < cfg.maxBody ∧ s.rxCnt.toNat + 1 ≤ s.frameLen.toNat ∧ (s.rxCnt + 1).toNat = s.rxCnt.toNat + 1

/-! ### Encodings -/

/-- R104 to R106, R111 and R115: for every well-formed instruction, the decoder reads the encoder's word back to it. -/
def Obligations.DecodeReadsEncodeBack : Prop :=
  ∀ i : Instr, i.WellFormed → decode (encode i) = i

/-- R106, R108 and R111: every command word and every type tag decodes to a well-formed instruction; a tag is encoded
back to itself, and a command word to a word with the same opcode. -/
def Obligations.EveryUnitDecodes : Prop :=
  (∀ w : Word16, (decode (.command w)).WellFormed ∧
    ∃ w', encode (decode (.command w)) = .command w' ∧ w'.extractLsb' 12 4 = w.extractLsb' 12 4 ∧
      decode (.command w') = decode (.command w)) ∧
  (∀ t : Byte, (decode (.typeTag t)).WellFormed ∧ encode (decode (.typeTag t)) = .typeTag t)

/-- R105 and R106: the bits of `A` and `D` that an opcode does not use do not change the instruction. -/
def Obligations.UnusedBitsAreIgnored : Prop :=
  ∀ (op a a' : BitVec 4) (d d' : Byte),
    let usesD := op = 2 ∨ op = 4 ∨ op = 5 ∨ op = 6 ∨ op = 8 ∨ op = 9 ∨ op = 10 ∨ op = 14
    (usesD → d = d') → (op = 13 → a.getLsbD 0 = a'.getLsbD 0) →
    (op = 14 → a.extractLsb' 0 2 = a'.extractLsb' 0 2) → (op = 15 → a = a') →
    decodeCommand ((op ++ a) ++ d) = decodeCommand ((op ++ a') ++ d')

/-- R110, R111 and R112: words written out from the spec's encodings decode to the commands and rows they stand for. That
no row maps tag `0x42`, so that it is the generic row's, is the registry of the spec's general knowledge (K3, log 1); a row
as an instruction is log 6. -/
def Obligations.WrittenWordsDecode : Prop :=
  decodeCommand 0x208A = .ckAdd 0x8A ∧ decodeCommand 0xD100 = .prsCtrl true ∧ decodeCommand 0xE201 = .tmoSet 2 0x01 ∧
  decodeCommand 0xF600 = .regRd 6 ∧ decodeCommand 0x9002 = .txLenL 0x02 ∧ decodeCommand 0xB000 = .txEnd ∧
  decodeCommand 0xFF00 = .regRdReserved 15 ∧ decodeCommand 0x507E = .escEnc 0x7E ∧ decodeTag 0x8A = .frameModemStatus ∧
  decodeTag 0x42 = .frameGeneric 0x42

/-! ### Checksum and codec laws -/

/-- R145: exactly one trailing byte completes a sum, the checksum value, which is the sum's complement; and the sum
depends neither on the order of the bytes nor on how they are split. -/
def Obligations.ChecksumLaws : Prop :=
  (∀ bs : List Byte, ∀ t : Byte, ckVerify (ckSum bs) t = true ↔ t = ckValue (ckSum bs)) ∧
  (∀ sum : Byte, ckValue sum = ~~~sum) ∧
  (∀ bs bs' : List Byte, bs.Perm bs' → ckSum bs = ckSum bs') ∧
  (∀ bs bs' : List Byte, ckSum (bs ++ bs') = ckSum bs + ckSum bs')

/-- R146: flipping one bit of one byte of the frame data, or of the checksum byte, makes verification fail. -/
def Obligations.ChecksumDetectsOneFlippedBit : Prop :=
  ∀ (pre post : List Byte) (b : Byte) (k : Nat), k < 8 →
    ckVerify (ckSum (pre ++ [b ^^^ (1#8 <<< k)] ++ post)) (ckValue (ckSum (pre ++ [b] ++ post))) = false ∧
    ckVerify (ckSum pre) (ckValue (ckSum pre) ^^^ (1#8 <<< k)) = false

/-- R170: unescaping what was escaped gives it back, and no marker is left pending. -/
def Obligations.UnescapeReadsEscapeBack : Prop :=
  ∀ bs : List Byte, unescape false (escape bs) = (bs, false)

/-- R163 and R165: each special byte adds one wire byte, and an escaped sequence holds no delimiter and no
flow-control byte. -/
def Obligations.EscapedSequencesHoldNoDelimiter : Prop :=
  ∀ bs : List Byte, (escape bs).length = bs.length + bs.countP isSpecial ∧
    ∀ w ∈ escape bs, w ≠ delim ∧ w ≠ xonByte ∧ w ≠ xoffByte

/-! ### Sequences and streams -/

/-- R116 with R253 and R140: `TMO_SET32 v` sets all of `tmo`, `CK_OF` answers the checksum of its bytes. -/
def Obligations.PseudoInstructionResults : Prop :=
  (∀ (s : State) (v : Word32),
    execAll (pseudoTmoSet32 v) s = .next { s with tmo := v, rsp := some ⟨false, 0, 0, 0⟩ }) ∧
  (∀ (s : State) (bs : List Byte),
    execAll (pseudoCkOf bs) s = .next { s with hcSum := ckSum bs, rsp := some ⟨false, 1, 0xFF - ckSum bs, 0⟩ })

/-- R235: with no frame open, `TX_FRAME t, body` queues exactly the canonical wire frame and leaves the composer
closed, with no command error. -/
def Obligations.TxFrameQueuesTheCanonicalFrame : Prop :=
  ∀ (s : State) (tag : Byte) (body : List Byte), s.txOpen = false → body.length ≤ 65534 →
    let len : Word16 := BitVec.ofNat 16 (1 + body.length)
    execAll (pseudoTxFrame tag body) s = .next { s with
      txq := s.txq ++ ([delim, len.extractLsb' 8 8, len.extractLsb' 0 8]
        ++ escape ([tag] ++ body ++ [0xFF - ckSum (tag :: body)])),
      txLenHi := len.extractLsb' 8 8, txRem := 0, txSum := ckSum (tag :: body), txOpen := false,
      rsp := some ⟨false, 0, 0, 0⟩ }

/-- R238: parsing a composed frame gives it back, in every instance and from every state that awaits a delimiter: one
record with its tag, length, checksum, class and body where the variant check does not find a length mismatch, the
event the verdict names, and no report of an unescaped special byte. From a state with `run = 0`, where no byte is
accepted, this is the model's choice (log 21). -/
def Obligations.ParsingAComposedFrameGivesItBack : Prop :=
  ∀ (cfg : Config) (s : State) (tag : Byte) (body : List Byte),
    cfg.Valid → s.ps = .awaitDelim → s.bodyBuf.wf → body.length ≤ cfg.maxBody →
    let r := parseFrom cfg (registryDispatcher cfg) (compose tag body) s
    let cls := cfg.registry tag
    let len : Word16 := BitVec.ofNat 16 (1 + body.length)
    let ck : Byte := 0xFF - ckSum (tag :: body)
    r.final.ps = .awaitDelim ∧
    match cfg.variantCheck cls tag body with
    | .ok => r.records = [⟨if cls = 0 then .generic else .typed, cls, tag, len, ck, 0x00, body⟩] ∧ r.events = [0x001#9]
    | .fault c => r.records = [⟨.errorMarker, cls, tag, len, ck, c, body⟩] ∧ r.events = [0x080#9]
    | .lenMismatch => r.records = [] ∧ r.events = [0x010#9]

/-- R85 and R204: the parse of a stream is the parse of its first part and then of the rest: chunk boundaries change
nothing. From a state in which no byte is accepted this is the model's choice (log 12, log 21). -/
def Obligations.ParseDoesNotDependOnChunks : Prop :=
  ∀ (cfg : Config) (bs bs' : List Byte) (s : State),
    let r := parseFrom cfg (registryDispatcher cfg) bs s
    parseFrom cfg (registryDispatcher cfg) (bs ++ bs') s =
      ParseResult.after r.records r.events (parseFrom cfg (registryDispatcher cfg) bs' r.final)

/-- R203 (a) and (b): two frames with garbage before each give exactly their two records, in order, where neither
garbage holds a delimiter and the variant check passes both. From a state with `run = 0`, where no byte is accepted,
this is the model's choice (log 21). -/
def Obligations.FramesAreFoundInGarbage : Prop :=
  ∀ (cfg : Config) (s : State) (g1 g2 : List Byte) (tag1 tag2 : Byte) (body1 body2 : List Byte),
    cfg.Valid → s.ps = .awaitDelim → s.bodyBuf.wf → body1.length ≤ cfg.maxBody → body2.length ≤ cfg.maxBody →
    delim ∉ g1 → delim ∉ g2 →
    cfg.variantCheck (cfg.registry tag1) tag1 body1 = .ok → cfg.variantCheck (cfg.registry tag2) tag2 body2 = .ok →
    let r := parseFrom cfg (registryDispatcher cfg) (g1 ++ compose tag1 body1 ++ g2 ++ compose tag2 body2) s
    let record (tag : Byte) (body : List Byte) : FrameRecord :=
      ⟨if cfg.registry tag = 0 then .generic else .typed, cfg.registry tag, tag, BitVec.ofNat 16 (1 + body.length),
        0xFF - ckSum (tag :: body), 0x00, body⟩
    r.records = [record tag1 body1, record tag2 body2] ∧ r.events = [0x001#9, 0x001#9] ∧ r.final.ps = .awaitDelim
end

