-- ==== Sys2Proof/Laws/Checksum.lean ====
section
/-! SUPPORT. The checksum functions as arithmetic on bytes (40_checksum.md R140). -/

namespace Sys2Proof.Machine

@[simp] theorem ckSum_nil : ckSum [] = 0 := rfl

@[simp] theorem ckSum_concat (bs : List Byte) (b : Byte) : ckSum (bs ++ [b]) = ckSum bs + b := by
  simp [ckSum, ckAdd]

@[simp] theorem ckSum_singleton (b : Byte) : ckSum [b] = b := by
  simp [ckSum, ckAdd, ckClear]

/-- Folding bytes into a sum that is not clear adds their own sum to it. -/
theorem foldl_ckAdd (bs : List Byte) (sum : Byte) : bs.foldl ckAdd sum = sum + ckSum bs := by
  induction bs generalizing sum with
  | nil => simp
  | cons b bs ih =>
    have h : ckSum (b :: bs) = b + ckSum bs := by
      rw [ckSum, List.foldl_cons, ih]
      simp [ckAdd, ckClear]
    rw [List.foldl_cons, ih, h, ckAdd, BitVec.add_assoc]

theorem ckVerify_iff (sum t : Byte) : ckVerify sum t = true ↔ sum + t = 0xFF := by
  simp [ckVerify, ckBase]

/-- The checksum value completes its own sum. -/
@[simp] theorem add_ckValue (sum : Byte) : sum + ckValue sum = 0xFF := by
  unfold ckValue ckBase
  bv_omega

end Sys2Proof.Machine
end

