-- ==== Sys2Proof/Laws/Codec.lean ====
section
/-! SUPPORT. The encoder and the decoder step, case by case (41_codec.md R161, R166), and why an encoded byte is read
back: the constraint of 00_scope.md R9 on the special bytes. -/

namespace Sys2Proof.Machine

theorem isSpecial_iff (b : Byte) :
    isSpecial b = true ↔ b = delim ∨ b = escByte ∨ b = xonByte ∨ b = xoffByte := by
  simp [isSpecial, or_assoc]

/-- R9, first constraint: the four special values are pairwise distinct. -/
theorem special_distinct : [delim, escByte, xonByte, xoffByte].Nodup := by decide

/-- R9, second constraint: the second byte of an escape pair is never special. -/
theorem escaped_not_special : ∀ b : Byte, isSpecial b = true → isSpecial (b ^^^ escXor) = false := by decide

theorem xor_escXor_cancel (b : Byte) : (b ^^^ escXor) ^^^ escXor = b := by
  rw [BitVec.xor_assoc, BitVec.xor_self, BitVec.xor_zero]

/-- What one decoder step can do (R166). -/
theorem decodeStep_cases (p : Bool) (w : Byte) :
    p = true ∧ decodeStep p w = ⟨false, some (w ^^^ escXor), false⟩ ∨
    p = false ∧ w = escByte ∧ decodeStep p w = ⟨true, none, false⟩ ∨
    p = false ∧ w ≠ escByte ∧ decodeStep p w = ⟨false, some w, isSpecial w⟩ := by
  cases p
  · by_cases h : w = escByte <;> simp [decodeStep, h]
  · simp [decodeStep]

/-- A step that gives a logical byte leaves no marker pending. -/
theorem decodeStep_pending_of_out {p : Bool} {w v : Byte} (h : (decodeStep p w).out = some v) :
    (decodeStep p w).pending = false := by
  rcases decodeStep_cases p w with ⟨_, e⟩ | ⟨_, _, e⟩ | ⟨_, _, e⟩ <;> simp_all

/-- An escape marker that is not itself escaped is the only wire byte that gives no logical byte. -/
theorem decodeStep_out_none_iff (p : Bool) (w : Byte) :
    (decodeStep p w).out = none ↔ p = false ∧ w = escByte := by
  rcases decodeStep_cases p w with ⟨h, e⟩ | ⟨h, h', e⟩ | ⟨h, h', e⟩ <;> rw [e] <;> simp_all

theorem encodeByte_of_special {b : Byte} (h : isSpecial b = true) : encodeByte b = [escByte, b ^^^ escXor] := by
  simp [encodeByte, h]

theorem encodeByte_of_not_special {b : Byte} (h : isSpecial b = false) : encodeByte b = [b] := by
  simp [encodeByte, h]

@[simp] theorem escape_nil : escape [] = [] := rfl

@[simp] theorem escape_cons (b : Byte) (bs : List Byte) : escape (b :: bs) = encodeByte b ++ escape bs := rfl

/-- No command enqueues more than a byte's encoding, which is at most two bytes (R52, R161). -/
theorem length_encodeByte_le (b : Byte) : (encodeByte b).length ≤ 2 := by
  unfold encodeByte
  split <;> simp

end Sys2Proof.Machine
end

