-- ==== Sys2Proof/Laws/Decode.lean ====
section
/-! SUPPORT. What the decoder reads from a word assembled from its fields, and the one instruction each command word
is, by its opcode (30_encoding.md R104, R106, R108). -/

namespace Sys2Proof

@[simp] theorem fieldOp_commandWord (op a : BitVec 4) (d : Byte) : fieldOp (commandWord op a d) = op := by
  change BitVec.extractLsb' 12 4 ((op ++ a) ++ d) = op
  apply BitVec.eq_of_getLsbD_eq
  intro k hk
  simp only [BitVec.getLsbD_extractLsb', BitVec.getLsbD_append]
  interval_cases k <;> simp

@[simp] theorem fieldA_commandWord (op a : BitVec 4) (d : Byte) : fieldA (commandWord op a d) = a := by
  change BitVec.extractLsb' 8 4 ((op ++ a) ++ d) = a
  apply BitVec.eq_of_getLsbD_eq
  intro k hk
  simp only [BitVec.getLsbD_extractLsb', BitVec.getLsbD_append]
  interval_cases k <;> simp

@[simp] theorem fieldD_commandWord (op a : BitVec 4) (d : Byte) : fieldD (commandWord op a d) = d := by
  change BitVec.extractLsb' 0 8 ((op ++ a) ++ d) = d
  apply BitVec.eq_of_getLsbD_eq
  intro k hk
  simp only [BitVec.getLsbD_extractLsb', BitVec.getLsbD_append]
  interval_cases k <;> simp

/-- A word written out as its three fields is the word the fields assemble (R104). -/
theorem decodeCommand_append (op a : BitVec 4) (d : Byte) :
    decodeCommand ((op ++ a) ++ d) = decodeCommand (commandWord op a d) := rfl

/-- The one instruction a command word is (R106), by the value of its opcode field. -/
theorem decodeCommand_cases (w : Word16) :
    (fieldOp w).toNat = 0 ∧ decodeCommand w = .nop ∨
    (fieldOp w).toNat = 1 ∧ decodeCommand w = .ckClear ∨
    (fieldOp w).toNat = 2 ∧ decodeCommand w = .ckAdd (fieldD w) ∨
    (fieldOp w).toNat = 3 ∧ decodeCommand w = .ckValue ∨
    (fieldOp w).toNat = 4 ∧ decodeCommand w = .ckVerify (fieldD w) ∨
    (fieldOp w).toNat = 5 ∧ decodeCommand w = .escEnc (fieldD w) ∨
    (fieldOp w).toNat = 6 ∧ decodeCommand w = .escDec (fieldD w) ∨
    (fieldOp w).toNat = 7 ∧ decodeCommand w = .escClr ∨
    (fieldOp w).toNat = 8 ∧ decodeCommand w = .txLenH (fieldD w) ∨
    (fieldOp w).toNat = 9 ∧ decodeCommand w = .txLenL (fieldD w) ∨
    (fieldOp w).toNat = 10 ∧ decodeCommand w = .txByte (fieldD w) ∨
    (fieldOp w).toNat = 11 ∧ decodeCommand w = .txEnd ∨
    (fieldOp w).toNat = 12 ∧ decodeCommand w = .txAbort ∨
    (fieldOp w).toNat = 13 ∧ decodeCommand w = .prsCtrl ((fieldA w).getLsbD 0) ∨
    (fieldOp w).toNat = 14 ∧ decodeCommand w = .tmoSet ((fieldA w).extractLsb' 0 2) (fieldD w) ∨
    (fieldOp w).toNat = 15 ∧ (fieldA w).toNat < 8 ∧ decodeCommand w = .regRd (fieldA w) ∨
    (fieldOp w).toNat = 15 ∧ 8 ≤ (fieldA w).toNat ∧ decodeCommand w = .regRdReserved (fieldA w) := by
  have hlt := (fieldOp w).isLt
  unfold decodeCommand
  generalize (fieldOp w).toNat = k at *
  by_cases h : (fieldA w).toNat < 8 <;> interval_cases k <;> simp [h]
  omega

/-- The instruction of a type tag has the tag's class in its row (R112), or is the generic row (R111). -/
theorem decodeTag_generic : ∀ tag : Byte, registryRef tag = 0 → decodeTag tag = .frameGeneric tag := by
  decide

/-- The fallback row is read only from a tag no other row maps (R111). -/
theorem decodeTag_wellFormed : ∀ tag : Byte, (decodeTag tag).WellFormed := by
  decide

end Sys2Proof
end

