-- ==== Sys2Proof/Laws/State.lean ====
section
/-! SUPPORT. What each named operation does to each field of the state: one lemma a field, true by rfl, so that no
proof unfolds a record update. -/

namespace Sys2Proof.Machine

section
variable (e : EventName) (s : State)

@[simp] theorem emit_run : (emit e s).run = s.run := rfl
@[simp] theorem emit_ps : (emit e s).ps = s.ps := rfl
@[simp] theorem emit_lenHi : (emit e s).lenHi = s.lenHi := rfl
@[simp] theorem emit_frameLen : (emit e s).frameLen = s.frameLen := rfl
@[simp] theorem emit_rxCnt : (emit e s).rxCnt = s.rxCnt := rfl
@[simp] theorem emit_ftype : (emit e s).ftype = s.ftype := rfl
@[simp] theorem emit_rxSum : (emit e s).rxSum = s.rxSum := rfl
@[simp] theorem emit_rxEsc : (emit e s).rxEsc = s.rxEsc := rfl
@[simp] theorem emit_bodyBuf : (emit e s).bodyBuf = s.bodyBuf := rfl
@[simp] theorem emit_rxCk : (emit e s).rxCk = s.rxCk := rfl
@[simp] theorem emit_idleCnt : (emit e s).idleCnt = s.idleCnt := rfl
@[simp] theorem emit_foKind : (emit e s).foKind = s.foKind := rfl
@[simp] theorem emit_foClass : (emit e s).foClass = s.foClass := rfl
@[simp] theorem emit_foFault : (emit e s).foFault = s.foFault := rfl
@[simp] theorem emit_tmo : (emit e s).tmo = s.tmo := rfl
@[simp] theorem emit_cmdErr : (emit e s).cmdErr = s.cmdErr := rfl
@[simp] theorem emit_txOpen : (emit e s).txOpen = s.txOpen := rfl
@[simp] theorem emit_txLenHi : (emit e s).txLenHi = s.txLenHi := rfl
@[simp] theorem emit_txRem : (emit e s).txRem = s.txRem := rfl
@[simp] theorem emit_txSum : (emit e s).txSum = s.txSum := rfl
@[simp] theorem emit_txq : (emit e s).txq = s.txq := rfl
@[simp] theorem emit_hcSum : (emit e s).hcSum = s.hcSum := rfl
@[simp] theorem emit_hdEsc : (emit e s).hdEsc = s.hdEsc := rfl
@[simp] theorem emit_rsp : (emit e s).rsp = s.rsp := rfl
@[simp] theorem emit_ev : (emit e s).ev = s.ev ||| e.bit := rfl
@[simp] theorem emit_inputs : (emit e s).inputs = s.inputs := rfl

end

section
variable (err : Bool) (n : BitVec 2) (b0 b1 : Byte) (s : State)

@[simp] theorem respond_run : (respond err n b0 b1 s).run = s.run := rfl
@[simp] theorem respond_ps : (respond err n b0 b1 s).ps = s.ps := rfl
@[simp] theorem respond_lenHi : (respond err n b0 b1 s).lenHi = s.lenHi := rfl
@[simp] theorem respond_frameLen : (respond err n b0 b1 s).frameLen = s.frameLen := rfl
@[simp] theorem respond_rxCnt : (respond err n b0 b1 s).rxCnt = s.rxCnt := rfl
@[simp] theorem respond_ftype : (respond err n b0 b1 s).ftype = s.ftype := rfl
@[simp] theorem respond_rxSum : (respond err n b0 b1 s).rxSum = s.rxSum := rfl
@[simp] theorem respond_rxEsc : (respond err n b0 b1 s).rxEsc = s.rxEsc := rfl
@[simp] theorem respond_bodyBuf : (respond err n b0 b1 s).bodyBuf = s.bodyBuf := rfl
@[simp] theorem respond_rxCk : (respond err n b0 b1 s).rxCk = s.rxCk := rfl
@[simp] theorem respond_idleCnt : (respond err n b0 b1 s).idleCnt = s.idleCnt := rfl
@[simp] theorem respond_foKind : (respond err n b0 b1 s).foKind = s.foKind := rfl
@[simp] theorem respond_foClass : (respond err n b0 b1 s).foClass = s.foClass := rfl
@[simp] theorem respond_foFault : (respond err n b0 b1 s).foFault = s.foFault := rfl
@[simp] theorem respond_tmo : (respond err n b0 b1 s).tmo = s.tmo := rfl
@[simp] theorem respond_cmdErr : (respond err n b0 b1 s).cmdErr = s.cmdErr := rfl
@[simp] theorem respond_txOpen : (respond err n b0 b1 s).txOpen = s.txOpen := rfl
@[simp] theorem respond_txLenHi : (respond err n b0 b1 s).txLenHi = s.txLenHi := rfl
@[simp] theorem respond_txRem : (respond err n b0 b1 s).txRem = s.txRem := rfl
@[simp] theorem respond_txSum : (respond err n b0 b1 s).txSum = s.txSum := rfl
@[simp] theorem respond_txq : (respond err n b0 b1 s).txq = s.txq := rfl
@[simp] theorem respond_hcSum : (respond err n b0 b1 s).hcSum = s.hcSum := rfl
@[simp] theorem respond_hdEsc : (respond err n b0 b1 s).hdEsc = s.hdEsc := rfl
@[simp] theorem respond_rsp : (respond err n b0 b1 s).rsp = some ⟨err, n, b0, b1⟩ := rfl
@[simp] theorem respond_ev : (respond err n b0 b1 s).ev = s.ev := rfl
@[simp] theorem respond_inputs : (respond err n b0 b1 s).inputs = s.inputs := rfl

end

section
variable (s : State)

@[simp] theorem done_run : (done s).run = s.run := rfl
@[simp] theorem done_ps : (done s).ps = s.ps := rfl
@[simp] theorem done_lenHi : (done s).lenHi = s.lenHi := rfl
@[simp] theorem done_frameLen : (done s).frameLen = s.frameLen := rfl
@[simp] theorem done_rxCnt : (done s).rxCnt = s.rxCnt := rfl
@[simp] theorem done_ftype : (done s).ftype = s.ftype := rfl
@[simp] theorem done_rxSum : (done s).rxSum = s.rxSum := rfl
@[simp] theorem done_rxEsc : (done s).rxEsc = s.rxEsc := rfl
@[simp] theorem done_bodyBuf : (done s).bodyBuf = s.bodyBuf := rfl
@[simp] theorem done_rxCk : (done s).rxCk = s.rxCk := rfl
@[simp] theorem done_idleCnt : (done s).idleCnt = s.idleCnt := rfl
@[simp] theorem done_foKind : (done s).foKind = s.foKind := rfl
@[simp] theorem done_foClass : (done s).foClass = s.foClass := rfl
@[simp] theorem done_foFault : (done s).foFault = s.foFault := rfl
@[simp] theorem done_tmo : (done s).tmo = s.tmo := rfl
@[simp] theorem done_cmdErr : (done s).cmdErr = s.cmdErr := rfl
@[simp] theorem done_txOpen : (done s).txOpen = s.txOpen := rfl
@[simp] theorem done_txLenHi : (done s).txLenHi = s.txLenHi := rfl
@[simp] theorem done_txRem : (done s).txRem = s.txRem := rfl
@[simp] theorem done_txSum : (done s).txSum = s.txSum := rfl
@[simp] theorem done_txq : (done s).txq = s.txq := rfl
@[simp] theorem done_hcSum : (done s).hcSum = s.hcSum := rfl
@[simp] theorem done_hdEsc : (done s).hdEsc = s.hdEsc := rfl
@[simp] theorem done_rsp : (done s).rsp = some ⟨false, 0, 0, 0⟩ := rfl
@[simp] theorem done_ev : (done s).ev = s.ev := rfl
@[simp] theorem done_inputs : (done s).inputs = s.inputs := rfl

end

section
variable (v : Word16) (s : State)

@[simp] theorem respondWord_run : (respondWord v s).run = s.run := rfl
@[simp] theorem respondWord_ps : (respondWord v s).ps = s.ps := rfl
@[simp] theorem respondWord_lenHi : (respondWord v s).lenHi = s.lenHi := rfl
@[simp] theorem respondWord_frameLen : (respondWord v s).frameLen = s.frameLen := rfl
@[simp] theorem respondWord_rxCnt : (respondWord v s).rxCnt = s.rxCnt := rfl
@[simp] theorem respondWord_ftype : (respondWord v s).ftype = s.ftype := rfl
@[simp] theorem respondWord_rxSum : (respondWord v s).rxSum = s.rxSum := rfl
@[simp] theorem respondWord_rxEsc : (respondWord v s).rxEsc = s.rxEsc := rfl
@[simp] theorem respondWord_bodyBuf : (respondWord v s).bodyBuf = s.bodyBuf := rfl
@[simp] theorem respondWord_rxCk : (respondWord v s).rxCk = s.rxCk := rfl
@[simp] theorem respondWord_idleCnt : (respondWord v s).idleCnt = s.idleCnt := rfl
@[simp] theorem respondWord_foKind : (respondWord v s).foKind = s.foKind := rfl
@[simp] theorem respondWord_foClass : (respondWord v s).foClass = s.foClass := rfl
@[simp] theorem respondWord_foFault : (respondWord v s).foFault = s.foFault := rfl
@[simp] theorem respondWord_tmo : (respondWord v s).tmo = s.tmo := rfl
@[simp] theorem respondWord_cmdErr : (respondWord v s).cmdErr = s.cmdErr := rfl
@[simp] theorem respondWord_txOpen : (respondWord v s).txOpen = s.txOpen := rfl
@[simp] theorem respondWord_txLenHi : (respondWord v s).txLenHi = s.txLenHi := rfl
@[simp] theorem respondWord_txRem : (respondWord v s).txRem = s.txRem := rfl
@[simp] theorem respondWord_txSum : (respondWord v s).txSum = s.txSum := rfl
@[simp] theorem respondWord_txq : (respondWord v s).txq = s.txq := rfl
@[simp] theorem respondWord_hcSum : (respondWord v s).hcSum = s.hcSum := rfl
@[simp] theorem respondWord_hdEsc : (respondWord v s).hdEsc = s.hdEsc := rfl
@[simp] theorem respondWord_rsp : (respondWord v s).rsp = some ⟨false, 2, highByte v, lowByte v⟩ := rfl
@[simp] theorem respondWord_ev : (respondWord v s).ev = s.ev := rfl
@[simp] theorem respondWord_inputs : (respondWord v s).inputs = s.inputs := rfl

end

section
variable (bytes : List Byte) (s : State)

@[simp] theorem enqueue_run : (enqueue bytes s).run = s.run := rfl
@[simp] theorem enqueue_ps : (enqueue bytes s).ps = s.ps := rfl
@[simp] theorem enqueue_lenHi : (enqueue bytes s).lenHi = s.lenHi := rfl
@[simp] theorem enqueue_frameLen : (enqueue bytes s).frameLen = s.frameLen := rfl
@[simp] theorem enqueue_rxCnt : (enqueue bytes s).rxCnt = s.rxCnt := rfl
@[simp] theorem enqueue_ftype : (enqueue bytes s).ftype = s.ftype := rfl
@[simp] theorem enqueue_rxSum : (enqueue bytes s).rxSum = s.rxSum := rfl
@[simp] theorem enqueue_rxEsc : (enqueue bytes s).rxEsc = s.rxEsc := rfl
@[simp] theorem enqueue_bodyBuf : (enqueue bytes s).bodyBuf = s.bodyBuf := rfl
@[simp] theorem enqueue_rxCk : (enqueue bytes s).rxCk = s.rxCk := rfl
@[simp] theorem enqueue_idleCnt : (enqueue bytes s).idleCnt = s.idleCnt := rfl
@[simp] theorem enqueue_foKind : (enqueue bytes s).foKind = s.foKind := rfl
@[simp] theorem enqueue_foClass : (enqueue bytes s).foClass = s.foClass := rfl
@[simp] theorem enqueue_foFault : (enqueue bytes s).foFault = s.foFault := rfl
@[simp] theorem enqueue_tmo : (enqueue bytes s).tmo = s.tmo := rfl
@[simp] theorem enqueue_cmdErr : (enqueue bytes s).cmdErr = s.cmdErr := rfl
@[simp] theorem enqueue_txOpen : (enqueue bytes s).txOpen = s.txOpen := rfl
@[simp] theorem enqueue_txLenHi : (enqueue bytes s).txLenHi = s.txLenHi := rfl
@[simp] theorem enqueue_txRem : (enqueue bytes s).txRem = s.txRem := rfl
@[simp] theorem enqueue_txSum : (enqueue bytes s).txSum = s.txSum := rfl
@[simp] theorem enqueue_txq : (enqueue bytes s).txq = s.txq ++ bytes := rfl
@[simp] theorem enqueue_hcSum : (enqueue bytes s).hcSum = s.hcSum := rfl
@[simp] theorem enqueue_hdEsc : (enqueue bytes s).hdEsc = s.hdEsc := rfl
@[simp] theorem enqueue_rsp : (enqueue bytes s).rsp = s.rsp := rfl
@[simp] theorem enqueue_ev : (enqueue bytes s).ev = s.ev := rfl
@[simp] theorem enqueue_inputs : (enqueue bytes s).inputs = s.inputs := rfl

end

section
variable (s : State)

@[simp] theorem clearPulses_run : (clearPulses s).run = s.run := rfl
@[simp] theorem clearPulses_ps : (clearPulses s).ps = s.ps := rfl
@[simp] theorem clearPulses_lenHi : (clearPulses s).lenHi = s.lenHi := rfl
@[simp] theorem clearPulses_frameLen : (clearPulses s).frameLen = s.frameLen := rfl
@[simp] theorem clearPulses_rxCnt : (clearPulses s).rxCnt = s.rxCnt := rfl
@[simp] theorem clearPulses_ftype : (clearPulses s).ftype = s.ftype := rfl
@[simp] theorem clearPulses_rxSum : (clearPulses s).rxSum = s.rxSum := rfl
@[simp] theorem clearPulses_rxEsc : (clearPulses s).rxEsc = s.rxEsc := rfl
@[simp] theorem clearPulses_bodyBuf : (clearPulses s).bodyBuf = s.bodyBuf := rfl
@[simp] theorem clearPulses_rxCk : (clearPulses s).rxCk = s.rxCk := rfl
@[simp] theorem clearPulses_idleCnt : (clearPulses s).idleCnt = s.idleCnt := rfl
@[simp] theorem clearPulses_foKind : (clearPulses s).foKind = s.foKind := rfl
@[simp] theorem clearPulses_foClass : (clearPulses s).foClass = s.foClass := rfl
@[simp] theorem clearPulses_foFault : (clearPulses s).foFault = s.foFault := rfl
@[simp] theorem clearPulses_tmo : (clearPulses s).tmo = s.tmo := rfl
@[simp] theorem clearPulses_cmdErr : (clearPulses s).cmdErr = s.cmdErr := rfl
@[simp] theorem clearPulses_txOpen : (clearPulses s).txOpen = s.txOpen := rfl
@[simp] theorem clearPulses_txLenHi : (clearPulses s).txLenHi = s.txLenHi := rfl
@[simp] theorem clearPulses_txRem : (clearPulses s).txRem = s.txRem := rfl
@[simp] theorem clearPulses_txSum : (clearPulses s).txSum = s.txSum := rfl
@[simp] theorem clearPulses_txq : (clearPulses s).txq = s.txq := rfl
@[simp] theorem clearPulses_hcSum : (clearPulses s).hcSum = s.hcSum := rfl
@[simp] theorem clearPulses_hdEsc : (clearPulses s).hdEsc = s.hdEsc := rfl
@[simp] theorem clearPulses_rsp : (clearPulses s).rsp = none := rfl
@[simp] theorem clearPulses_ev : (clearPulses s).ev = 0 := rfl
@[simp] theorem clearPulses_inputs : (clearPulses s).inputs = s.inputs := rfl

end

section
variable (s : State)

@[simp] theorem abandonQuietly_run : (abandonQuietly s).run = s.run := rfl
@[simp] theorem abandonQuietly_ps : (abandonQuietly s).ps = .awaitDelim := rfl
@[simp] theorem abandonQuietly_lenHi : (abandonQuietly s).lenHi = s.lenHi := rfl
@[simp] theorem abandonQuietly_frameLen : (abandonQuietly s).frameLen = s.frameLen := rfl
@[simp] theorem abandonQuietly_rxCnt : (abandonQuietly s).rxCnt = s.rxCnt := rfl
@[simp] theorem abandonQuietly_ftype : (abandonQuietly s).ftype = s.ftype := rfl
@[simp] theorem abandonQuietly_rxSum : (abandonQuietly s).rxSum = s.rxSum := rfl
@[simp] theorem abandonQuietly_rxEsc : (abandonQuietly s).rxEsc = false := rfl
@[simp] theorem abandonQuietly_bodyBuf : (abandonQuietly s).bodyBuf = s.bodyBuf := rfl
@[simp] theorem abandonQuietly_rxCk : (abandonQuietly s).rxCk = s.rxCk := rfl
@[simp] theorem abandonQuietly_idleCnt : (abandonQuietly s).idleCnt = 0 := rfl
@[simp] theorem abandonQuietly_foKind : (abandonQuietly s).foKind = s.foKind := rfl
@[simp] theorem abandonQuietly_foClass : (abandonQuietly s).foClass = s.foClass := rfl
@[simp] theorem abandonQuietly_foFault : (abandonQuietly s).foFault = s.foFault := rfl
@[simp] theorem abandonQuietly_tmo : (abandonQuietly s).tmo = s.tmo := rfl
@[simp] theorem abandonQuietly_cmdErr : (abandonQuietly s).cmdErr = s.cmdErr := rfl
@[simp] theorem abandonQuietly_txOpen : (abandonQuietly s).txOpen = s.txOpen := rfl
@[simp] theorem abandonQuietly_txLenHi : (abandonQuietly s).txLenHi = s.txLenHi := rfl
@[simp] theorem abandonQuietly_txRem : (abandonQuietly s).txRem = s.txRem := rfl
@[simp] theorem abandonQuietly_txSum : (abandonQuietly s).txSum = s.txSum := rfl
@[simp] theorem abandonQuietly_txq : (abandonQuietly s).txq = s.txq := rfl
@[simp] theorem abandonQuietly_hcSum : (abandonQuietly s).hcSum = s.hcSum := rfl
@[simp] theorem abandonQuietly_hdEsc : (abandonQuietly s).hdEsc = s.hdEsc := rfl
@[simp] theorem abandonQuietly_rsp : (abandonQuietly s).rsp = s.rsp := rfl
@[simp] theorem abandonQuietly_ev : (abandonQuietly s).ev = s.ev := rfl
@[simp] theorem abandonQuietly_inputs : (abandonQuietly s).inputs = s.inputs := rfl

end

section
variable (e : EventName) (s : State)

@[simp] theorem abandon_run : (abandon e s).run = s.run := rfl
@[simp] theorem abandon_ps : (abandon e s).ps = .awaitDelim := rfl
@[simp] theorem abandon_lenHi : (abandon e s).lenHi = s.lenHi := rfl
@[simp] theorem abandon_frameLen : (abandon e s).frameLen = s.frameLen := rfl
@[simp] theorem abandon_rxCnt : (abandon e s).rxCnt = s.rxCnt := rfl
@[simp] theorem abandon_ftype : (abandon e s).ftype = s.ftype := rfl
@[simp] theorem abandon_rxSum : (abandon e s).rxSum = s.rxSum := rfl
@[simp] theorem abandon_rxEsc : (abandon e s).rxEsc = false := rfl
@[simp] theorem abandon_bodyBuf : (abandon e s).bodyBuf = s.bodyBuf := rfl
@[simp] theorem abandon_rxCk : (abandon e s).rxCk = s.rxCk := rfl
@[simp] theorem abandon_idleCnt : (abandon e s).idleCnt = 0 := rfl
@[simp] theorem abandon_foKind : (abandon e s).foKind = s.foKind := rfl
@[simp] theorem abandon_foClass : (abandon e s).foClass = s.foClass := rfl
@[simp] theorem abandon_foFault : (abandon e s).foFault = s.foFault := rfl
@[simp] theorem abandon_tmo : (abandon e s).tmo = s.tmo := rfl
@[simp] theorem abandon_cmdErr : (abandon e s).cmdErr = s.cmdErr := rfl
@[simp] theorem abandon_txOpen : (abandon e s).txOpen = s.txOpen := rfl
@[simp] theorem abandon_txLenHi : (abandon e s).txLenHi = s.txLenHi := rfl
@[simp] theorem abandon_txRem : (abandon e s).txRem = s.txRem := rfl
@[simp] theorem abandon_txSum : (abandon e s).txSum = s.txSum := rfl
@[simp] theorem abandon_txq : (abandon e s).txq = s.txq := rfl
@[simp] theorem abandon_hcSum : (abandon e s).hcSum = s.hcSum := rfl
@[simp] theorem abandon_hdEsc : (abandon e s).hdEsc = s.hdEsc := rfl
@[simp] theorem abandon_rsp : (abandon e s).rsp = s.rsp := rfl
@[simp] theorem abandon_ev : (abandon e s).ev = s.ev ||| e.bit := rfl
@[simp] theorem abandon_inputs : (abandon e s).inputs = s.inputs := rfl

end

section
variable (s : State)

@[simp] theorem raiseCmdErr_run : (raiseCmdErr s).run = s.run := rfl
@[simp] theorem raiseCmdErr_ps : (raiseCmdErr s).ps = s.ps := rfl
@[simp] theorem raiseCmdErr_lenHi : (raiseCmdErr s).lenHi = s.lenHi := rfl
@[simp] theorem raiseCmdErr_frameLen : (raiseCmdErr s).frameLen = s.frameLen := rfl
@[simp] theorem raiseCmdErr_rxCnt : (raiseCmdErr s).rxCnt = s.rxCnt := rfl
@[simp] theorem raiseCmdErr_ftype : (raiseCmdErr s).ftype = s.ftype := rfl
@[simp] theorem raiseCmdErr_rxSum : (raiseCmdErr s).rxSum = s.rxSum := rfl
@[simp] theorem raiseCmdErr_rxEsc : (raiseCmdErr s).rxEsc = s.rxEsc := rfl
@[simp] theorem raiseCmdErr_bodyBuf : (raiseCmdErr s).bodyBuf = s.bodyBuf := rfl
@[simp] theorem raiseCmdErr_rxCk : (raiseCmdErr s).rxCk = s.rxCk := rfl
@[simp] theorem raiseCmdErr_idleCnt : (raiseCmdErr s).idleCnt = s.idleCnt := rfl
@[simp] theorem raiseCmdErr_foKind : (raiseCmdErr s).foKind = s.foKind := rfl
@[simp] theorem raiseCmdErr_foClass : (raiseCmdErr s).foClass = s.foClass := rfl
@[simp] theorem raiseCmdErr_foFault : (raiseCmdErr s).foFault = s.foFault := rfl
@[simp] theorem raiseCmdErr_tmo : (raiseCmdErr s).tmo = s.tmo := rfl
@[simp] theorem raiseCmdErr_cmdErr : (raiseCmdErr s).cmdErr = true := rfl
@[simp] theorem raiseCmdErr_txOpen : (raiseCmdErr s).txOpen = s.txOpen := rfl
@[simp] theorem raiseCmdErr_txLenHi : (raiseCmdErr s).txLenHi = s.txLenHi := rfl
@[simp] theorem raiseCmdErr_txRem : (raiseCmdErr s).txRem = s.txRem := rfl
@[simp] theorem raiseCmdErr_txSum : (raiseCmdErr s).txSum = s.txSum := rfl
@[simp] theorem raiseCmdErr_txq : (raiseCmdErr s).txq = s.txq := rfl
@[simp] theorem raiseCmdErr_hcSum : (raiseCmdErr s).hcSum = s.hcSum := rfl
@[simp] theorem raiseCmdErr_hdEsc : (raiseCmdErr s).hdEsc = s.hdEsc := rfl
@[simp] theorem raiseCmdErr_rsp : (raiseCmdErr s).rsp = some ⟨true, 0, 0, 0⟩ := rfl
@[simp] theorem raiseCmdErr_ev : (raiseCmdErr s).ev = s.ev ||| EventName.cmdErr.bit := rfl
@[simp] theorem raiseCmdErr_inputs : (raiseCmdErr s).inputs = s.inputs := rfl

end

section
variable (i : Nat) (v : Byte) (s : State)

@[simp] theorem bodyWrite_run : (bodyWrite i v s).run = s.run := rfl
@[simp] theorem bodyWrite_ps : (bodyWrite i v s).ps = s.ps := rfl
@[simp] theorem bodyWrite_lenHi : (bodyWrite i v s).lenHi = s.lenHi := rfl
@[simp] theorem bodyWrite_frameLen : (bodyWrite i v s).frameLen = s.frameLen := rfl
@[simp] theorem bodyWrite_rxCnt : (bodyWrite i v s).rxCnt = s.rxCnt := rfl
@[simp] theorem bodyWrite_ftype : (bodyWrite i v s).ftype = s.ftype := rfl
@[simp] theorem bodyWrite_rxSum : (bodyWrite i v s).rxSum = s.rxSum := rfl
@[simp] theorem bodyWrite_rxEsc : (bodyWrite i v s).rxEsc = s.rxEsc := rfl
@[simp] theorem bodyWrite_bodyBuf : (bodyWrite i v s).bodyBuf = s.bodyBuf.write i v := rfl
@[simp] theorem bodyWrite_rxCk : (bodyWrite i v s).rxCk = s.rxCk := rfl
@[simp] theorem bodyWrite_idleCnt : (bodyWrite i v s).idleCnt = s.idleCnt := rfl
@[simp] theorem bodyWrite_foKind : (bodyWrite i v s).foKind = s.foKind := rfl
@[simp] theorem bodyWrite_foClass : (bodyWrite i v s).foClass = s.foClass := rfl
@[simp] theorem bodyWrite_foFault : (bodyWrite i v s).foFault = s.foFault := rfl
@[simp] theorem bodyWrite_tmo : (bodyWrite i v s).tmo = s.tmo := rfl
@[simp] theorem bodyWrite_cmdErr : (bodyWrite i v s).cmdErr = s.cmdErr := rfl
@[simp] theorem bodyWrite_txOpen : (bodyWrite i v s).txOpen = s.txOpen := rfl
@[simp] theorem bodyWrite_txLenHi : (bodyWrite i v s).txLenHi = s.txLenHi := rfl
@[simp] theorem bodyWrite_txRem : (bodyWrite i v s).txRem = s.txRem := rfl
@[simp] theorem bodyWrite_txSum : (bodyWrite i v s).txSum = s.txSum := rfl
@[simp] theorem bodyWrite_txq : (bodyWrite i v s).txq = s.txq := rfl
@[simp] theorem bodyWrite_hcSum : (bodyWrite i v s).hcSum = s.hcSum := rfl
@[simp] theorem bodyWrite_hdEsc : (bodyWrite i v s).hdEsc = s.hdEsc := rfl
@[simp] theorem bodyWrite_rsp : (bodyWrite i v s).rsp = s.rsp := rfl
@[simp] theorem bodyWrite_ev : (bodyWrite i v s).ev = s.ev := rfl
@[simp] theorem bodyWrite_inputs : (bodyWrite i v s).inputs = s.inputs := rfl

end

section
variable (k : FoKind) (cls c : Byte) (e : EventName) (s : State)

@[simp] theorem completeFrame_run : (completeFrame k cls c e s).run = s.run := rfl
@[simp] theorem completeFrame_ps : (completeFrame k cls c e s).ps = .complete := rfl
@[simp] theorem completeFrame_lenHi : (completeFrame k cls c e s).lenHi = s.lenHi := rfl
@[simp] theorem completeFrame_frameLen : (completeFrame k cls c e s).frameLen = s.frameLen := rfl
@[simp] theorem completeFrame_rxCnt : (completeFrame k cls c e s).rxCnt = s.rxCnt := rfl
@[simp] theorem completeFrame_ftype : (completeFrame k cls c e s).ftype = s.ftype := rfl
@[simp] theorem completeFrame_rxSum : (completeFrame k cls c e s).rxSum = s.rxSum := rfl
@[simp] theorem completeFrame_rxEsc : (completeFrame k cls c e s).rxEsc = false := rfl
@[simp] theorem completeFrame_bodyBuf : (completeFrame k cls c e s).bodyBuf = s.bodyBuf := rfl
@[simp] theorem completeFrame_rxCk : (completeFrame k cls c e s).rxCk = s.rxCk := rfl
@[simp] theorem completeFrame_idleCnt : (completeFrame k cls c e s).idleCnt = s.idleCnt := rfl
@[simp] theorem completeFrame_foKind : (completeFrame k cls c e s).foKind = k := rfl
@[simp] theorem completeFrame_foClass : (completeFrame k cls c e s).foClass = cls := rfl
@[simp] theorem completeFrame_foFault : (completeFrame k cls c e s).foFault = c := rfl
@[simp] theorem completeFrame_tmo : (completeFrame k cls c e s).tmo = s.tmo := rfl
@[simp] theorem completeFrame_cmdErr : (completeFrame k cls c e s).cmdErr = s.cmdErr := rfl
@[simp] theorem completeFrame_txOpen : (completeFrame k cls c e s).txOpen = s.txOpen := rfl
@[simp] theorem completeFrame_txLenHi : (completeFrame k cls c e s).txLenHi = s.txLenHi := rfl
@[simp] theorem completeFrame_txRem : (completeFrame k cls c e s).txRem = s.txRem := rfl
@[simp] theorem completeFrame_txSum : (completeFrame k cls c e s).txSum = s.txSum := rfl
@[simp] theorem completeFrame_txq : (completeFrame k cls c e s).txq = s.txq := rfl
@[simp] theorem completeFrame_hcSum : (completeFrame k cls c e s).hcSum = s.hcSum := rfl
@[simp] theorem completeFrame_hdEsc : (completeFrame k cls c e s).hdEsc = s.hdEsc := rfl
@[simp] theorem completeFrame_rsp : (completeFrame k cls c e s).rsp = s.rsp := rfl
@[simp] theorem completeFrame_ev : (completeFrame k cls c e s).ev = s.ev ||| e.bit := rfl
@[simp] theorem completeFrame_inputs : (completeFrame k cls c e s).inputs = s.inputs := rfl

end

section
variable (s : State)

@[simp] theorem txPop_run : (txPop s).run = s.run := rfl
@[simp] theorem txPop_ps : (txPop s).ps = s.ps := rfl
@[simp] theorem txPop_lenHi : (txPop s).lenHi = s.lenHi := rfl
@[simp] theorem txPop_frameLen : (txPop s).frameLen = s.frameLen := rfl
@[simp] theorem txPop_rxCnt : (txPop s).rxCnt = s.rxCnt := rfl
@[simp] theorem txPop_ftype : (txPop s).ftype = s.ftype := rfl
@[simp] theorem txPop_rxSum : (txPop s).rxSum = s.rxSum := rfl
@[simp] theorem txPop_rxEsc : (txPop s).rxEsc = s.rxEsc := rfl
@[simp] theorem txPop_bodyBuf : (txPop s).bodyBuf = s.bodyBuf := rfl
@[simp] theorem txPop_rxCk : (txPop s).rxCk = s.rxCk := rfl
@[simp] theorem txPop_idleCnt : (txPop s).idleCnt = s.idleCnt := rfl
@[simp] theorem txPop_foKind : (txPop s).foKind = s.foKind := rfl
@[simp] theorem txPop_foClass : (txPop s).foClass = s.foClass := rfl
@[simp] theorem txPop_foFault : (txPop s).foFault = s.foFault := rfl
@[simp] theorem txPop_tmo : (txPop s).tmo = s.tmo := rfl
@[simp] theorem txPop_cmdErr : (txPop s).cmdErr = s.cmdErr := rfl
@[simp] theorem txPop_txOpen : (txPop s).txOpen = s.txOpen := rfl
@[simp] theorem txPop_txLenHi : (txPop s).txLenHi = s.txLenHi := rfl
@[simp] theorem txPop_txRem : (txPop s).txRem = s.txRem := rfl
@[simp] theorem txPop_txSum : (txPop s).txSum = s.txSum := rfl
@[simp] theorem txPop_txq : (txPop s).txq = s.txq.tail := rfl
@[simp] theorem txPop_hcSum : (txPop s).hcSum = s.hcSum := rfl
@[simp] theorem txPop_hdEsc : (txPop s).hdEsc = s.hdEsc := rfl
@[simp] theorem txPop_rsp : (txPop s).rsp = s.rsp := rfl
@[simp] theorem txPop_ev : (txPop s).ev = s.ev := rfl
@[simp] theorem txPop_inputs : (txPop s).inputs = s.inputs := rfl

end

section
variable (s : State)

@[simp] theorem foAccept_run : (foAccept s).run = s.run := rfl
@[simp] theorem foAccept_ps : (foAccept s).ps = .awaitDelim := rfl
@[simp] theorem foAccept_lenHi : (foAccept s).lenHi = s.lenHi := rfl
@[simp] theorem foAccept_frameLen : (foAccept s).frameLen = s.frameLen := rfl
@[simp] theorem foAccept_rxCnt : (foAccept s).rxCnt = s.rxCnt := rfl
@[simp] theorem foAccept_ftype : (foAccept s).ftype = s.ftype := rfl
@[simp] theorem foAccept_rxSum : (foAccept s).rxSum = s.rxSum := rfl
@[simp] theorem foAccept_rxEsc : (foAccept s).rxEsc = s.rxEsc := rfl
@[simp] theorem foAccept_bodyBuf : (foAccept s).bodyBuf = s.bodyBuf := rfl
@[simp] theorem foAccept_rxCk : (foAccept s).rxCk = s.rxCk := rfl
@[simp] theorem foAccept_idleCnt : (foAccept s).idleCnt = s.idleCnt := rfl
@[simp] theorem foAccept_foKind : (foAccept s).foKind = s.foKind := rfl
@[simp] theorem foAccept_foClass : (foAccept s).foClass = s.foClass := rfl
@[simp] theorem foAccept_foFault : (foAccept s).foFault = s.foFault := rfl
@[simp] theorem foAccept_tmo : (foAccept s).tmo = s.tmo := rfl
@[simp] theorem foAccept_cmdErr : (foAccept s).cmdErr = s.cmdErr := rfl
@[simp] theorem foAccept_txOpen : (foAccept s).txOpen = s.txOpen := rfl
@[simp] theorem foAccept_txLenHi : (foAccept s).txLenHi = s.txLenHi := rfl
@[simp] theorem foAccept_txRem : (foAccept s).txRem = s.txRem := rfl
@[simp] theorem foAccept_txSum : (foAccept s).txSum = s.txSum := rfl
@[simp] theorem foAccept_txq : (foAccept s).txq = s.txq := rfl
@[simp] theorem foAccept_hcSum : (foAccept s).hcSum = s.hcSum := rfl
@[simp] theorem foAccept_hdEsc : (foAccept s).hdEsc = s.hdEsc := rfl
@[simp] theorem foAccept_rsp : (foAccept s).rsp = s.rsp := rfl
@[simp] theorem foAccept_ev : (foAccept s).ev = s.ev := rfl
@[simp] theorem foAccept_inputs : (foAccept s).inputs = s.inputs := rfl

end

section
variable (s : State)

@[simp] theorem takeInputs_run : (takeInputs s).run = s.run := rfl
@[simp] theorem takeInputs_ps : (takeInputs s).ps = s.ps := rfl
@[simp] theorem takeInputs_lenHi : (takeInputs s).lenHi = s.lenHi := rfl
@[simp] theorem takeInputs_frameLen : (takeInputs s).frameLen = s.frameLen := rfl
@[simp] theorem takeInputs_rxCnt : (takeInputs s).rxCnt = s.rxCnt := rfl
@[simp] theorem takeInputs_ftype : (takeInputs s).ftype = s.ftype := rfl
@[simp] theorem takeInputs_rxSum : (takeInputs s).rxSum = s.rxSum := rfl
@[simp] theorem takeInputs_rxEsc : (takeInputs s).rxEsc = s.rxEsc := rfl
@[simp] theorem takeInputs_bodyBuf : (takeInputs s).bodyBuf = s.bodyBuf := rfl
@[simp] theorem takeInputs_rxCk : (takeInputs s).rxCk = s.rxCk := rfl
@[simp] theorem takeInputs_idleCnt : (takeInputs s).idleCnt = s.idleCnt := rfl
@[simp] theorem takeInputs_foKind : (takeInputs s).foKind = s.foKind := rfl
@[simp] theorem takeInputs_foClass : (takeInputs s).foClass = s.foClass := rfl
@[simp] theorem takeInputs_foFault : (takeInputs s).foFault = s.foFault := rfl
@[simp] theorem takeInputs_tmo : (takeInputs s).tmo = s.tmo := rfl
@[simp] theorem takeInputs_cmdErr : (takeInputs s).cmdErr = s.cmdErr := rfl
@[simp] theorem takeInputs_txOpen : (takeInputs s).txOpen = s.txOpen := rfl
@[simp] theorem takeInputs_txLenHi : (takeInputs s).txLenHi = s.txLenHi := rfl
@[simp] theorem takeInputs_txRem : (takeInputs s).txRem = s.txRem := rfl
@[simp] theorem takeInputs_txSum : (takeInputs s).txSum = s.txSum := rfl
@[simp] theorem takeInputs_txq : (takeInputs s).txq = s.txq := rfl
@[simp] theorem takeInputs_hcSum : (takeInputs s).hcSum = s.hcSum := rfl
@[simp] theorem takeInputs_hdEsc : (takeInputs s).hdEsc = s.hdEsc := rfl
@[simp] theorem takeInputs_rsp : (takeInputs s).rsp = s.rsp := rfl
@[simp] theorem takeInputs_ev : (takeInputs s).ev = s.ev := rfl
@[simp] theorem takeInputs_inputs : (takeInputs s).inputs = s.inputs.tail := rfl

end

section
variable (cfg : Config) (s : State)

@[simp] theorem resetEdge_run : (resetEdge cfg s).run = false := rfl
@[simp] theorem resetEdge_ps : (resetEdge cfg s).ps = .awaitDelim := rfl
@[simp] theorem resetEdge_lenHi : (resetEdge cfg s).lenHi = 0 := rfl
@[simp] theorem resetEdge_frameLen : (resetEdge cfg s).frameLen = 0 := rfl
@[simp] theorem resetEdge_rxCnt : (resetEdge cfg s).rxCnt = 0 := rfl
@[simp] theorem resetEdge_ftype : (resetEdge cfg s).ftype = 0 := rfl
@[simp] theorem resetEdge_rxSum : (resetEdge cfg s).rxSum = 0 := rfl
@[simp] theorem resetEdge_rxEsc : (resetEdge cfg s).rxEsc = false := rfl
@[simp] theorem resetEdge_bodyBuf : (resetEdge cfg s).bodyBuf = [] := rfl
@[simp] theorem resetEdge_rxCk : (resetEdge cfg s).rxCk = 0 := rfl
@[simp] theorem resetEdge_idleCnt : (resetEdge cfg s).idleCnt = 0 := rfl
@[simp] theorem resetEdge_foKind : (resetEdge cfg s).foKind = .typed := rfl
@[simp] theorem resetEdge_foClass : (resetEdge cfg s).foClass = 0 := rfl
@[simp] theorem resetEdge_foFault : (resetEdge cfg s).foFault = 0 := rfl
@[simp] theorem resetEdge_tmo : (resetEdge cfg s).tmo = cfg.defaultTimeout := rfl
@[simp] theorem resetEdge_cmdErr : (resetEdge cfg s).cmdErr = false := rfl
@[simp] theorem resetEdge_txOpen : (resetEdge cfg s).txOpen = false := rfl
@[simp] theorem resetEdge_txLenHi : (resetEdge cfg s).txLenHi = 0 := rfl
@[simp] theorem resetEdge_txRem : (resetEdge cfg s).txRem = 0 := rfl
@[simp] theorem resetEdge_txSum : (resetEdge cfg s).txSum = 0 := rfl
@[simp] theorem resetEdge_txq : (resetEdge cfg s).txq = [] := rfl
@[simp] theorem resetEdge_hcSum : (resetEdge cfg s).hcSum = 0 := rfl
@[simp] theorem resetEdge_hdEsc : (resetEdge cfg s).hdEsc = false := rfl
@[simp] theorem resetEdge_rsp : (resetEdge cfg s).rsp = none := rfl
@[simp] theorem resetEdge_ev : (resetEdge cfg s).ev = 0 := rfl
@[simp] theorem resetEdge_inputs : (resetEdge cfg s).inputs = s.inputs := rfl

end

end Sys2Proof.Machine
end

