-- ==== Sys2Proof/Laws/Command.lean ====
section
/-! SUPPORT. What each command can do, one lemma a command that has more than one outcome (43_composer.md R231 to
R237, 44_control.md R252, R254), and that every command answers a next state. -/

namespace Sys2Proof.Machine

theorem lengthOf_eq_zero (hi lo : Byte) : lengthOf hi lo = 0 ↔ hi = 0 ∧ lo = 0 := by
  constructor
  · intro e
    have e := congrArg BitVec.toNat e
    have h1 := hi.isLt
    have h2 := lo.isLt
    rw [lengthOf, BitVec.toNat_append, ← Nat.shiftLeft_add_eq_or_of_lt h2, Nat.shiftLeft_eq] at e
    change hi.toNat * 2 ^ 8 + lo.toNat = 0 at e
    constructor <;> apply BitVec.eq_of_toNat_eq <;> simp <;> omega
  · rintro ⟨rfl, rfl⟩
    rfl

/-- The length as a number: most significant byte first (R102). -/
theorem toNat_lengthOf (hi lo : Byte) : (lengthOf hi lo).toNat = hi.toNat * 256 + lo.toNat := by
  have h2 := lo.isLt
  rw [lengthOf, BitVec.toNat_append, ← Nat.shiftLeft_add_eq_or_of_lt h2, Nat.shiftLeft_eq]

/-- A 16-bit value is the length of its two bytes (R81, R102). -/
@[simp] theorem lengthOf_bytes (v : Word16) : lengthOf (highByte v) (lowByte v) = v := by
  apply BitVec.eq_of_toNat_eq
  rw [toNat_lengthOf, highByte, lowByte]
  have := v.isLt
  simp [BitVec.extractLsb'_toNat, Nat.shiftRight_eq_div_pow]
  omega

theorem readRegister_none {sel : BitVec 4} (h : 8 ≤ sel.toNat) (s : State) : readRegister sel s = none := by
  have hlt := sel.isLt
  unfold readRegister
  split <;> first | omega | rfl

theorem readRegister_some {sel : BitVec 4} (h : sel.toNat < 8) (s : State) : ∃ v, readRegister sel s = some v := by
  unfold readRegister
  generalize sel.toNat = k at *
  interval_cases k <;> exact ⟨_, rfl⟩

/-- What a register read can do (R254). -/
theorem registerRead_cases (sel : BitVec 4) (s : State) :
    8 ≤ sel.toNat ∧ registerRead sel s = raiseCmdErr s ∨
    sel.toNat = 7 ∧ registerRead sel s = respondWord (statusWord s) { s with cmdErr := false } ∨
    sel.toNat < 7 ∧ ∃ v, registerRead sel s = respondWord v s := by
  by_cases h : 8 ≤ sel.toNat
  · exact .inl ⟨h, by simp [registerRead, readRegister_none h]⟩
  · obtain ⟨v, hv⟩ := readRegister_some (Nat.lt_of_not_le h) s
    by_cases h7 : sel.toNat = 7
    · refine .inr (.inl ⟨h7, ?_⟩)
      simp only [registerRead, readRegister, h7, if_true]
    · exact .inr (.inr ⟨by omega, v, by simp [registerRead, hv, h7]⟩)

/-- What `TX_LENH` can do (R231). -/
theorem execTxLenH_cases (d : Byte) (s : State) :
    s.txOpen = true ∧ execTxLenH d s = .next (raiseCmdErr s) ∨
    s.txOpen = false ∧ execTxLenH d s = .next (done { s with txLenHi := d }) := by
  cases h : s.txOpen <;> simp [execTxLenH, h]

/-- What `TX_LENL` can do (R232). -/
theorem execTxLenL_cases (d : Byte) (s : State) :
    (s.txOpen = true ∨ s.txLenHi = 0 ∧ d = 0) ∧ execTxLenL d s = .next (raiseCmdErr s) ∨
    s.txOpen = false ∧ lengthOf s.txLenHi d ≠ 0 ∧ execTxLenL d s =
      .next (done { enqueue [delim, s.txLenHi, d] s with
        txRem := lengthOf s.txLenHi d, txSum := ckClear, txOpen := true }) := by
  by_cases h : (s.txOpen || lengthOf s.txLenHi d == 0) = true
  · refine .inl ⟨?_, ?_⟩
    · simpa only [Bool.or_eq_true, beq_iff_eq, lengthOf_eq_zero] using h
    · simp only [execTxLenL, h, if_true]
  · refine .inr ?_
    simp only [execTxLenL, h]
    simpa [not_or] using h

/-- What `TX_BYTE` can do (R233). -/
theorem execTxByte_cases (d : Byte) (s : State) :
    (s.txOpen = false ∨ s.txRem = 0) ∧ execTxByte d s = .next (raiseCmdErr s) ∨
    s.txOpen = true ∧ s.txRem ≠ 0 ∧ execTxByte d s =
      .next (done { enqueue (encodeByte d) s with txSum := ckAdd s.txSum d, txRem := s.txRem - 1 }) := by
  by_cases h : (!s.txOpen || s.txRem == 0) = true
  · refine .inl ⟨?_, ?_⟩
    · simpa only [Bool.or_eq_true, beq_iff_eq, Bool.not_eq_true'] using h
    · simp only [execTxByte, h, if_true]
  · refine .inr ?_
    simp only [execTxByte, h]
    simpa [not_or] using h

/-- What `TX_END` can do (R234). -/
theorem execTxEnd_cases (s : State) :
    (s.txOpen = false ∨ s.txRem ≠ 0) ∧ execTxEnd s = .next (raiseCmdErr s) ∨
    s.txOpen = true ∧ s.txRem = 0 ∧ execTxEnd s =
      .next (done { enqueue (encodeByte (ckValue s.txSum)) s with txOpen := false }) := by
  by_cases h : (!s.txOpen || s.txRem != 0) = true
  · refine .inl ⟨?_, ?_⟩
    · simpa only [Bool.or_eq_true, bne_iff_ne, Bool.not_eq_true', ne_eq] using h
    · simp only [execTxEnd, h, if_true]
  · refine .inr ?_
    simp only [execTxEnd, h]
    simpa [not_or] using h

/-- What `PRS_CTRL` can do (R252). -/
theorem execPrsCtrl_cases (r : Bool) (s : State) :
    r = false ∧ s.ps.midFrame = true ∧ execPrsCtrl r s = .next (done { abandonQuietly s with run := r }) ∨
    (r = true ∨ s.ps.midFrame = false) ∧ execPrsCtrl r s = .next (done { s with run := r }) := by
  cases r <;> cases h : s.ps.midFrame <;> simp [execPrsCtrl, h]

/-- What `ESC_DEC` does, by its decoder step (R168). -/
theorem execEscDec_eq (w : Byte) (s : State) :
    execEscDec w s = .next (respond false
      (if (decodeStep s.hdEsc w).out.isSome then 1 else 0) ((decodeStep s.hdEsc w).out.getD 0) 0
      { s with hdEsc := (decodeStep s.hdEsc w).pending }) := by
  cases h : (decodeStep s.hdEsc w).out <;> simp [execEscDec, h, done]

/-- Every instruction answers a next state (R276, R282): no meaning faults or refuses. -/
theorem exec_next (i : Instr) (s : State) : ∃ t, exec i s = .next t := by
  cases i <;> exact ⟨_, rfl⟩

theorem runCommand_next (w : Word16) (s : State) : ∃ t, runCommand w s = .next t := exec_next _ _

end Sys2Proof.Machine
end

