-- ==== Sys2Proof/Laws/Config.lean ====
section
/-! SUPPORT. The reference instance and the machine's own instance meet the constraints of every instance
(00_scope.md R8, R9; 30_encoding.md R112; 42_parser.md R200). -/

namespace Sys2Proof

theorem Config.reference_valid (timeout : Word32) : (Config.reference timeout).Valid where
  maxBody_le := by simp [Config.reference]
  txqDepth_ge := by simp [Config.reference]
  modemStatus := show registryRef 0x8A = 11 by decide
  generic_ok := fun _ _ => rfl
  modemStatus_ok := rfl

theorem Config.impl_valid : Config.impl.Valid where
  maxBody_le := Nat.le_of_lt_succ Config.freeMaxBody.isLt
  txqDepth_ge := by simp [Config.impl]
  modemStatus := show registryRef 0x8A = 11 by decide
  generic_ok := fun _ _ => rfl
  modemStatus_ok := rfl

/-- Class 0 is the class of no registry row: a tag has class 0 exactly when no row maps it (R111). -/
theorem registryRef_ne_zero_iff : ∀ tag : Byte, registryRef tag ≠ 0 ↔ ∃ row ∈ registryRows, row.1 = tag := by
  decide

end Sys2Proof
end

