-- ==== Sys2Proof/Laws/Frame.lean ====
section
/-! SUPPORT. Frame dispatch: what a verdict can do (42_parser.md R194), and that running the instruction a tag decodes
to is the dispatch to the class the registry gives the tag (R190, 30_encoding.md R112). -/

namespace Sys2Proof.Machine

/-- What the verdict of a variant check can do. -/
theorem applyVerdict_cases (v : Verdict) (cls : Byte) (s : State) :
    v = .lenMismatch ∧ applyVerdict v cls s = abandon .lenMismatch s ∨
    (∃ c, v = .fault c ∧ applyVerdict v cls s = completeFrame .errorMarker cls c .variantFault s) ∨
    v = .ok ∧ applyVerdict v cls s = completeFrame (if cls = 0 then .generic else .typed) cls 0x00 .frameOk s := by
  cases v <;> simp [applyVerdict]

/-- The class an instruction of the table dispatches to is the class the table's registry gives its tag. -/
theorem exec_decodeTag (tag : Byte) (s : State) :
    exec (decodeTag tag) s = .next (dispatchFrame Config.impl tag (Config.impl.registry tag) s) := by
  have htag : tag = BitVec.ofNat 8 tag.toNat := by simp
  have hlt := tag.isLt
  generalize tag.toNat = k at *
  subst htag
  interval_cases k <;> rfl

/-- The machine's dispatcher is that of its own configuration. -/
theorem runTag_eq : runTag = registryDispatcher Config.impl := by
  funext tag s
  exact exec_decodeTag tag s

end Sys2Proof.Machine
end

