-- ==== Sys2Proof/Laws/Memory.lean ====
section
/-! SUPPORT. The body buffer: a write keeps the canonical form and the capacity bound, a read after a write gives the
byte written at its index and what was there at every other. -/

namespace Sys2Proof.Machine

/-- An index written is the only new one. -/
theorem Memory.mem_write {m : Memory} {a : Nat} {v : Byte} {c : Host.Cell} (h : c ∈ m.write a v) :
    c = (a, v) ∨ c ∈ m := by
  induction m with
  | nil =>
    simp only [Memory.write] at h
    split at h <;> simp_all
  | cons d m ih =>
    simp only [Memory.write] at h
    split at h
    · split at h <;> simp_all
    · split at h
      · split at h
        · exact .inr (List.mem_cons_of_mem d h)
        · rcases List.mem_cons.1 h with h | h
          · exact .inl h
          · exact .inr (List.mem_cons_of_mem d h)
      · simp only [List.mem_cons] at h ⊢
        rcases h with h | h
        · exact .inr (.inl h)
        · rcases ih h with h | h
          · exact .inl h
          · exact .inr (.inr h)

/-- A byte equal to the fill is never listed by a write. -/
theorem Memory.write_ne_fill {m : Memory} (hm : ∀ c ∈ m, c.2 ≠ Memory.fill) (a : Nat) (v : Byte) :
    ∀ c ∈ m.write a v, c.2 ≠ Memory.fill := by
  induction m with
  | nil =>
    intro c h
    simp only [Memory.write] at h
    split at h <;> simp_all
  | cons d m ih =>
    intro c h
    have hm' : ∀ c ∈ m, c.2 ≠ Memory.fill := fun c hc => hm c (List.mem_cons_of_mem d hc)
    simp only [Memory.write] at h
    split at h
    · split at h
      · exact hm c h
      · rcases List.mem_cons.1 h with rfl | h
        · assumption
        · exact hm c h
    · split at h
      · split at h
        · exact hm' c h
        · rcases List.mem_cons.1 h with rfl | h
          · assumption
          · exact hm' c h
      · rcases List.mem_cons.1 h with rfl | h
        · exact hm c List.mem_cons_self
        · exact ih hm' c h

/-- A write keeps the indices strictly rising. -/
theorem Memory.write_sorted {m : Memory} (hm : m.Pairwise (fun a b => a.1 < b.1)) (a : Nat) (v : Byte) :
    (m.write a v).Pairwise (fun a b => a.1 < b.1) := by
  induction m with
  | nil =>
    simp only [Memory.write]
    split <;> simp
  | cons d m ih =>
    have hd := List.pairwise_cons.1 hm
    simp only [Memory.write]
    split
    · split
      · exact hm
      · refine List.pairwise_cons.2 ⟨?_, hm⟩
        intro c hc
        rcases List.mem_cons.1 hc with rfl | hc
        · assumption
        · have := hd.1 c hc
          simp only
          omega
    · split
      · split
        · exact hd.2
        · refine List.pairwise_cons.2 ⟨?_, hd.2⟩
          intro c hc
          have := hd.1 c hc
          simp only
          omega
      · refine List.pairwise_cons.2 ⟨?_, ih hd.2⟩
        intro c hc
        rcases Memory.mem_write hc with rfl | hc
        · simp only
          omega
        · exact hd.1 c hc

/-- Every memory operation keeps the canonical form. -/
theorem Memory.write_wf {m : Memory} (hm : m.wf) (a : Nat) (v : Byte) : (m.write a v).wf :=
  ⟨Memory.write_sorted hm.1 a v, Memory.write_ne_fill hm.2 a v⟩

/-- An index below every listed one reads as the fill. -/
theorem Memory.read_of_lt {m : Memory} {a : Nat} (h : ∀ c ∈ m, a < c.1) : m.read a = Memory.fill := by
  induction m with
  | nil => rfl
  | cons d m ih =>
    have hd := h d List.mem_cons_self
    rw [Memory.read, if_neg (by omega)]
    exact ih fun c hc => h c (List.mem_cons_of_mem d hc)

/-- A read after a write. -/
theorem Memory.read_write {m : Memory} (hm : m.wf) (a b : Nat) (v : Byte) :
    (m.write a v).read b = if b = a then v else m.read b := by
  induction m with
  | nil =>
    simp only [Memory.write]
    split <;> split <;> simp_all [Memory.read, eq_comm]
  | cons d m ih =>
    have hs := List.pairwise_cons.1 hm.1
    have hm' : Memory.wf m := ⟨hs.2, fun c hc => hm.2 c (List.mem_cons_of_mem d hc)⟩
    simp only [Memory.write]
    split
    · rename_i hlt
      split
      · rename_i hv
        split
        · rename_i hba
          rw [hba, hv]
          exact Memory.read_of_lt fun c hc => by
            rcases List.mem_cons.1 hc with rfl | hc
            · exact hlt
            · have := hs.1 c hc
              omega
        · rfl
      · by_cases hba : b = a
        · simp [Memory.read, hba]
        · rw [Memory.read, if_neg (by simpa using Ne.symm hba), if_neg hba]
    · rename_i hge
      split
      · rename_i heq
        split
        · rename_i hv
          by_cases hba : b = a
          · rw [if_pos hba, hv]
            exact Memory.read_of_lt fun c hc => by
              have := hs.1 c hc
              omega
          · rw [if_neg hba, Memory.read, if_neg (by omega)]
        · by_cases hba : b = a
          · simp [Memory.read, hba]
          · rw [if_neg hba, Memory.read, Memory.read, if_neg (by simpa using Ne.symm hba), if_neg (by omega)]
      · rename_i hne
        by_cases hbd : d.1 = b
        · rw [Memory.read, if_pos hbd, if_neg (by omega), Memory.read, if_pos hbd]
        · rw [Memory.read, if_neg hbd, ih hm', Memory.read, if_neg hbd]

/-- The bytes below an index do not see a write at or above it. -/
theorem Memory.prefixBytes_write {m : Memory} (hm : m.wf) {n a : Nat} (h : n ≤ a) (v : Byte) :
    (m.write a v).prefixBytes n = m.prefixBytes n := by
  apply List.map_congr_left
  intro i hi
  rw [Memory.read_write hm, if_neg]
  have := List.mem_range.1 hi
  omega

/-- A write at the end of a run of bytes appends to it. -/
theorem Memory.prefixBytes_write_succ {m : Memory} (hm : m.wf) (n : Nat) (v : Byte) :
    (m.write n v).prefixBytes (n + 1) = m.prefixBytes n ++ [v] := by
  have h := Memory.prefixBytes_write hm (Nat.le_refl n) v
  simp only [Memory.prefixBytes] at h ⊢
  rw [List.range_succ, List.map_append, h]
  simp [Memory.read_write hm]

@[simp] theorem Memory.length_prefixBytes (m : Memory) (n : Nat) : (m.prefixBytes n).length = n := by
  simp [Memory.prefixBytes]

@[simp] theorem Memory.prefixBytes_zero (m : Memory) : m.prefixBytes 0 = [] := rfl

end Sys2Proof.Machine
end

