-- ==== Sys2Proof/Laws/Parser.lean ====
section
/-! SUPPORT. What the parser's events can do (42_parser.md R181 to R196): one lemma an event, cited by every proof
about the parser. -/

namespace Sys2Proof.Machine

section
variable (cfg : Config) (disp : Dispatcher) (b : Byte) {s : State}

theorem rxByte_of_awaitDelim (h : s.ps = .awaitDelim) :
    rxByte cfg disp b s = .next (rxAwaitDelim b { s with idleCnt := 0 }) := by simp [rxByte, h]

theorem rxByte_of_readLenMsb (h : s.ps = .readLenMsb) :
    rxByte cfg disp b s = .next (rxLenMsb b { s with idleCnt := 0 }) := by simp [rxByte, h]

theorem rxByte_of_readLenLsb (h : s.ps = .readLenLsb) :
    rxByte cfg disp b s = .next (rxLenLsb cfg b { s with idleCnt := 0 }) := by simp [rxByte, h]

theorem rxByte_of_escaped (h : s.ps = .readType ∨ s.ps = .readBody ∨ s.ps = .readCksum) :
    rxByte cfg disp b s = rxEscaped disp b { s with idleCnt := 0 } := by
  rcases h with h | h | h <;> simp [rxByte, h]

theorem rxByte_of_complete (h : s.ps = .complete) : rxByte cfg disp b s = .next s := by simp [rxByte, h]

end

/-- What the second length byte can do (R185). -/
theorem rxLenLsb_cases (cfg : Config) (b : Byte) (s : State) :
    lengthOf s.lenHi b = 0 ∧
      rxLenLsb cfg b s = abandon .lenZero { s with frameLen := lengthOf s.lenHi b } ∨
    lengthOf s.lenHi b ≠ 0 ∧ cfg.maxBody < (lengthOf s.lenHi b).toNat - 1 ∧
      rxLenLsb cfg b s = abandon .lenOversize { s with frameLen := lengthOf s.lenHi b } ∨
    lengthOf s.lenHi b ≠ 0 ∧ (lengthOf s.lenHi b).toNat - 1 ≤ cfg.maxBody ∧
      rxLenLsb cfg b s = { s with frameLen := lengthOf s.lenHi b, ps := .readType } := by
  by_cases h0 : lengthOf s.lenHi b = 0
  · exact .inl ⟨h0, by simp only [rxLenLsb]; rw [if_pos h0]⟩
  · by_cases h1 : cfg.maxBody < (lengthOf s.lenHi b).toNat - 1
    · exact .inr (.inl ⟨h0, h1, by simp only [rxLenLsb]; rw [if_neg h0, if_pos h1]⟩)
    · exact .inr (.inr ⟨h0, Nat.le_of_not_lt h1, by simp only [rxLenLsb]; rw [if_neg h0, if_neg h1]⟩)

/-- A wire byte through the decoder (R191): a marker only sets `rx_esc`; every other byte is delivered, with `rx_esc`
clear and the report of an unescaped special byte made. -/
theorem rxEscaped_cases (disp : Dispatcher) (b : Byte) (s : State) :
    s.rxEsc = false ∧ b = escByte ∧ rxEscaped disp b s = .next { s with rxEsc := true } ∨
    (∃ v, (decodeStep s.rxEsc b).out = some v ∧ (decodeStep s.rxEsc b).flag = false ∧
      rxEscaped disp b s = deliver disp v { s with rxEsc := false }) ∨
    (s.rxEsc = false ∧ isSpecial b = true ∧ (decodeStep s.rxEsc b).out = some b ∧
      (decodeStep s.rxEsc b).flag = true ∧
      rxEscaped disp b s = deliver disp b (emit .unescSpecial { s with rxEsc := false })) := by
  rcases decodeStep_cases s.rxEsc b with ⟨h, e⟩ | ⟨h, h', e⟩ | ⟨h, h', e⟩
  · exact .inr (.inl ⟨b ^^^ escXor, by simp [e], by simp [e], by simp [rxEscaped, e]⟩)
  · exact .inl ⟨h, h', by simp [rxEscaped, e]⟩
  · cases hs : isSpecial b
    · exact .inr (.inl ⟨b, by simp [e], by simp [e, hs], by simp [rxEscaped, e, hs]⟩)
    · exact .inr (.inr ⟨h, rfl, by simp [e], by simp [e, hs], by simp [rxEscaped, e, hs]⟩)

/-- What the checksum byte can do (R194). -/
theorem logicalCksum_cases (disp : Dispatcher) (v : Byte) (s : State) :
    ckVerify s.rxSum v = true ∧ logicalCksum disp v s = disp s.ftype { s with rxCk := v } ∨
    ckVerify s.rxSum v = false ∧ logicalCksum disp v s = .next (abandon .cksumFail { s with rxCk := v }) := by
  cases h : ckVerify s.rxSum v <;> simp [logicalCksum, h]

/-- What a cycle without a byte can do (R196). -/
theorem tick_cases (s : State) :
    (s.run = false ∨ s.ps.midFrame = false) ∧ tick s = s ∨
    s.run = true ∧ s.ps.midFrame = true ∧ (s.tmo = 0 ∨ (idleSucc s.idleCnt).toNat < s.tmo.toNat) ∧
      tick s = { s with idleCnt := idleSucc s.idleCnt } ∨
    s.run = true ∧ s.ps.midFrame = true ∧ s.tmo ≠ 0 ∧ s.tmo.toNat ≤ (idleSucc s.idleCnt).toNat ∧
      tick s = abandon .timeout { s with idleCnt := idleSucc s.idleCnt } := by
  by_cases h : (s.run && s.ps.midFrame) = true
  · have h' : s.run = true ∧ s.ps.midFrame = true := by simpa using h
    by_cases h1 : s.tmo ≠ 0 ∧ s.tmo.toNat ≤ (idleSucc s.idleCnt).toNat
    · exact .inr (.inr ⟨h'.1, h'.2, h1.1, h1.2, by simp only [tick, h, if_true]; rw [if_pos h1]⟩)
    · refine .inr (.inl ⟨h'.1, h'.2, ?_, by simp only [tick, h, if_true]; rw [if_neg h1]⟩)
      by_cases h0 : s.tmo = 0
      · exact .inl h0
      · exact .inr (Nat.lt_of_not_le fun hle => h1 ⟨h0, hle⟩)
  · refine .inl ⟨?_, by simp [tick, h]⟩
    cases hr : s.run <;> simp_all

/-- A delivered byte answers a next state where the dispatcher does. -/
theorem deliver_next {disp : Dispatcher} (hd : ∀ t s, ∃ s', disp t s = .next s') (v : Byte) (s : State) :
    ∃ s', deliver disp v s = .next s' := by
  unfold deliver
  split
  case h_3 =>
    rcases logicalCksum_cases disp v s with ⟨_, h⟩ | ⟨_, h⟩
    · rw [h]; exact hd _ _
    · exact ⟨_, h⟩
  all_goals exact ⟨_, rfl⟩

/-- An accepted byte answers a next state where the dispatcher does (R281). -/
theorem rxByte_next {disp : Dispatcher} (hd : ∀ t s, ∃ s', disp t s = .next s') (cfg : Config) (b : Byte)
    (s : State) : ∃ s', rxByte cfg disp b s = .next s' := by
  cases h : s.ps
  case awaitDelim => exact ⟨_, rxByte_of_awaitDelim cfg disp b h⟩
  case readLenMsb => exact ⟨_, rxByte_of_readLenMsb cfg disp b h⟩
  case readLenLsb => exact ⟨_, rxByte_of_readLenLsb cfg disp b h⟩
  case complete => exact ⟨_, rxByte_of_complete cfg disp b h⟩
  all_goals
    rw [rxByte_of_escaped cfg disp b (by simp [h])]
    rcases rxEscaped_cases disp b { s with idleCnt := 0 } with ⟨_, _, e⟩ | ⟨v, _, _, e⟩ | ⟨_, _, _, _, e⟩
    · exact ⟨_, e⟩
    · rw [e]; exact deliver_next hd _ _
    · rw [e]; exact deliver_next hd _ _

theorem registryDispatcher_next (cfg : Config) (t : Byte) (s : State) :
    ∃ s', registryDispatcher cfg t s = .next s' := ⟨_, rfl⟩

end Sys2Proof.Machine
end

