-- ==== Sys2Proof/Laws/Cycle.lean ====
section
/-! SUPPORT. The clock edge as a list of events (20_memory.md R88): how event lists compose, and that every event
answers a next state where the dispatcher does. -/

namespace Sys2Proof.Machine

@[simp] theorem andThen_next (s : State) (f : State → Result) : andThen (.next s) f = f s := rfl

/-- What answers a next state through `andThen` did so twice. -/
theorem andThen_eq_next {r : Result} {f : State → Result} {t : State} :
    andThen r f = .next t ↔ ∃ s, r = .next s ∧ f s = .next t := by
  cases r <;> simp [andThen]

@[simp] theorem applyEvents_nil (cfg : Config) (disp : Dispatcher) (s : State) :
    applyEvents cfg disp [] s = .next s := rfl

@[simp] theorem applyEvents_cons (cfg : Config) (disp : Dispatcher) (e : Event) (es : List Event) (s : State) :
    applyEvents cfg disp (e :: es) s = andThen (applyEvent cfg disp e s) (applyEvents cfg disp es) := rfl

/-- Two lists of events are run one after the other. -/
theorem applyEvents_append (cfg : Config) (disp : Dispatcher) (es es' : List Event) (s : State) :
    applyEvents cfg disp (es ++ es') s = andThen (applyEvents cfg disp es s) (applyEvents cfg disp es') := by
  induction es generalizing s with
  | nil => rfl
  | cons e es ih =>
    simp only [List.cons_append, applyEvents_cons]
    cases applyEvent cfg disp e s <;> simp [andThen, ih]

/-- Every event answers a next state where the dispatcher does. -/
theorem applyEvent_next {disp : Dispatcher} (hd : ∀ t s, ∃ s', disp t s = .next s') (cfg : Config) (e : Event)
    (s : State) : ∃ t, applyEvent cfg disp e s = .next t := by
  cases e with
  | rxByte b => exact rxByte_next hd cfg b s
  | cmd w => exact runCommand_next w s
  | txPop => exact ⟨_, rfl⟩
  | foAccept => exact ⟨_, rfl⟩
  | tick => exact ⟨_, rfl⟩
  | reset => exact ⟨_, rfl⟩

/-- The machine's dispatcher answers a next state for every tag. -/
theorem runTag_next (tag : Byte) (s : State) : ∃ t, runTag tag s = .next t := exec_next _ _

/-- `tx_data` is the head of the queue in every cycle, a reset cycle too (R87). -/
@[simp] theorem portOutputs_txData (cfg : Config) (inp : PortInputs) (s : State) :
    (portOutputs cfg inp s).txData = s.txq.head? := rfl

/-- `TxPop` removes exactly the head of the queue (R52, R87). -/
theorem txPop_of_cons {s : State} {b : Byte} {rest : List Byte} (h : s.txq = b :: rest) :
    txPop s = { s with txq := rest } := by
  simp [txPop, h]

/-- An edge with `rst = 1` is the reset edge and nothing else (R300). -/
theorem cycle_of_rst (cfg : Config) (disp : Dispatcher) {inp : PortInputs} (h : inp.rst = true) (s : State) :
    cycle cfg disp inp s = .next (resetEdge cfg (clearPulses s)) := by
  simp [cycle, cycleEvents, h, applyEvent]

end Sys2Proof.Machine
end

