-- ==== Sys2Proof/Laws/PerInstr.lean ====
section
/-! SUPPORT. The family TableRow: the encoder's word of each well-formed instruction has the match bits of its row of
spec/opcode_table.json under the row's mask (30_encoding.md R106, R108, R111, R112). -/

namespace Sys2Proof.Laws.TableRow

/-- One row's pattern as spec/opcode_table.json writes it: the `match` and `mask` of a command word or a type tag. -/
inductive Row where
  | command (value mask : Word16)
  | typeTag (value mask : Byte)
deriving DecidableEq, Repr

/-- The row of each instruction. -/
def rowOf : Instr → Row
  | .nop => .command 0x0000 0xF000
  | .ckClear => .command 0x1000 0xF000
  | .ckAdd _ => .command 0x2000 0xF000
  | .ckValue => .command 0x3000 0xF000
  | .ckVerify _ => .command 0x4000 0xF000
  | .escEnc _ => .command 0x5000 0xF000
  | .escDec _ => .command 0x6000 0xF000
  | .escClr => .command 0x7000 0xF000
  | .txLenH _ => .command 0x8000 0xF000
  | .txLenL _ => .command 0x9000 0xF000
  | .txByte _ => .command 0xA000 0xF000
  | .txEnd => .command 0xB000 0xF000
  | .txAbort => .command 0xC000 0xF000
  | .prsCtrl _ => .command 0xD000 0xF000
  | .tmoSet _ _ => .command 0xE000 0xF000
  | .regRd _ => .command 0xF000 0xF800
  | .regRdReserved _ => .command 0xF800 0xF800
  | .frameTxReq64 => .typeTag 0x00 0xFF
  | .frameTxReq16 => .typeTag 0x01 0xFF
  | .frameAtCmd => .typeTag 0x08 0xFF
  | .frameZbTxReq => .typeTag 0x10 0xFF
  | .frameExplicitTx => .typeTag 0x11 0xFF
  | .frameRemoteAtReq => .typeTag 0x17 0xFF
  | .frameRx64 => .typeTag 0x80 0xFF
  | .frameRx16 => .typeTag 0x81 0xFF
  | .frameAtRsp => .typeTag 0x88 0xFF
  | .frameTxStatus => .typeTag 0x89 0xFF
  | .frameModemStatus => .typeTag 0x8A 0xFF
  | .frameZbTxStatus => .typeTag 0x8B 0xFF
  | .frameZbRx => .typeTag 0x90 0xFF
  | .frameExplicitRx => .typeTag 0x91 0xFF
  | .frameRemoteAtRsp => .typeTag 0x97 0xFF
  | .frameGeneric _ => .typeTag 0x00 0x00

/-- A unit is one of the row's words. -/
def Row.admits : Row → FetchUnit → Bool
  | .command value mask, .command w => w &&& mask == value
  | .typeTag value mask, .typeTag t => t &&& mask == value
  | .command _ _, .typeTag _ => false
  | .typeTag _ _, .command _ => false

/-- The encoder's word of the instruction is a word of its row. -/
def Statement (i : Instr) : Prop := i.WellFormed → (rowOf i).admits (encode i) = true

theorem nop : Statement (.nop) := by
  intro _; decide

theorem ckClear : Statement (.ckClear) := by
  intro _; decide

theorem ckAdd (d : Byte) : Statement (.ckAdd d) := by
  intro _; revert d; decide

theorem ckValue : Statement (.ckValue) := by
  intro _; decide

theorem ckVerify (d : Byte) : Statement (.ckVerify d) := by
  intro _; revert d; decide

theorem escEnc (d : Byte) : Statement (.escEnc d) := by
  intro _; revert d; decide

theorem escDec (w : Byte) : Statement (.escDec w) := by
  intro _; revert w; decide

theorem escClr : Statement (.escClr) := by
  intro _; decide

theorem txLenH (d : Byte) : Statement (.txLenH d) := by
  intro _; revert d; decide

theorem txLenL (d : Byte) : Statement (.txLenL d) := by
  intro _; revert d; decide

theorem txByte (d : Byte) : Statement (.txByte d) := by
  intro _; revert d; decide

theorem txEnd : Statement (.txEnd) := by
  intro _; decide

theorem txAbort : Statement (.txAbort) := by
  intro _; decide

theorem prsCtrl (r : Bool) : Statement (.prsCtrl r) := by
  intro _; revert r; decide

theorem tmoSet (i : BitVec 2) (d : Byte) : Statement (.tmoSet i d) := by
  intro _; revert i d; decide

theorem regRd (s : BitVec 4) : Statement (.regRd s) := by
  unfold Statement; revert s; decide

theorem regRdReserved (s : BitVec 4) : Statement (.regRdReserved s) := by
  unfold Statement; revert s; decide

theorem frameTxReq64 : Statement (.frameTxReq64) := by
  intro _; decide

theorem frameTxReq16 : Statement (.frameTxReq16) := by
  intro _; decide

theorem frameAtCmd : Statement (.frameAtCmd) := by
  intro _; decide

theorem frameZbTxReq : Statement (.frameZbTxReq) := by
  intro _; decide

theorem frameExplicitTx : Statement (.frameExplicitTx) := by
  intro _; decide

theorem frameRemoteAtReq : Statement (.frameRemoteAtReq) := by
  intro _; decide

theorem frameRx64 : Statement (.frameRx64) := by
  intro _; decide

theorem frameRx16 : Statement (.frameRx16) := by
  intro _; decide

theorem frameAtRsp : Statement (.frameAtRsp) := by
  intro _; decide

theorem frameTxStatus : Statement (.frameTxStatus) := by
  intro _; decide

theorem frameModemStatus : Statement (.frameModemStatus) := by
  intro _; decide

theorem frameZbTxStatus : Statement (.frameZbTxStatus) := by
  intro _; decide

theorem frameZbRx : Statement (.frameZbRx) := by
  intro _; decide

theorem frameExplicitRx : Statement (.frameExplicitRx) := by
  intro _; decide

theorem frameRemoteAtRsp : Statement (.frameRemoteAtRsp) := by
  intro _; decide

theorem frameGeneric (tag : Byte) : Statement (.frameGeneric tag) := by
  intro _; revert tag; decide

end Sys2Proof.Laws.TableRow
end

