-- ==== Sys2Proof/Machine/Assembler.lean ====
section
/-! DEFINITION. The assembler syntax of command words (30_encoding.md R115): the mnemonic and its operands, one
command a line. -/

namespace Sys2Proof.Machine

/-- A hexadecimal digit. -/
def hexDigit (n : Nat) : Char := "0123456789ABCDEF".toList.getD n '?'

/-- A byte operand, written `0xHH` (R115). -/
def asmByte (b : Byte) : String := "0x" ++ String.ofList [hexDigit (b.toNat / 16), hexDigit (b.toNat % 16)]

/-- A command as one line of assembler text (R115); a type tag has none. -/
def asmLine : Instr → Option String
  | .nop => some "NOP"
  | .ckClear => some "CK_CLEAR"
  | .ckAdd d => some ("CK_ADD " ++ asmByte d)
  | .ckValue => some "CK_VALUE"
  | .ckVerify d => some ("CK_VERIFY " ++ asmByte d)
  | .escEnc d => some ("ESC_ENC " ++ asmByte d)
  | .escDec w => some ("ESC_DEC " ++ asmByte w)
  | .escClr => some "ESC_CLR"
  | .txLenH d => some ("TX_LENH " ++ asmByte d)
  | .txLenL d => some ("TX_LENL " ++ asmByte d)
  | .txByte d => some ("TX_BYTE " ++ asmByte d)
  | .txEnd => some "TX_END"
  | .txAbort => some "TX_ABORT"
  | .prsCtrl r => some ("PRS_CTRL run=" ++ (if r then "1" else "0"))
  | .tmoSet lane d => some ("TMO_SET " ++ toString lane.toNat ++ ", " ++ asmByte d)
  | .regRd sel => some ("REG_RD " ++ toString sel.toNat)
  | .regRdReserved sel => some ("REG_RD " ++ toString sel.toNat)
  | .frameTxReq64 => none
  | .frameTxReq16 => none
  | .frameAtCmd => none
  | .frameZbTxReq => none
  | .frameExplicitTx => none
  | .frameRemoteAtReq => none
  | .frameRx64 => none
  | .frameRx16 => none
  | .frameAtRsp => none
  | .frameTxStatus => none
  | .frameModemStatus => none
  | .frameZbTxStatus => none
  | .frameZbRx => none
  | .frameExplicitRx => none
  | .frameRemoteAtRsp => none
  | .frameGeneric _ => none

end Sys2Proof.Machine
end

