-- ==== Sys2Proof/Tests/Slice0.lean ====
section
/-! SUPPORT. Tests. Expected values are those of spec/95_test_vectors.md (the vector's name stands in each docstring) or
written out by hand from the rule named. Then one witness for every statement of the certificate that has hypotheses. -/

namespace Sys2Proof.Tests

open Sys2Proof Sys2Proof.Machine

/-- A state to start from: every register at its reset value, `tmo` zero. -/
def zero : State := State.resetOf (Config.reference 0)

/-- The block of the vectors: `MAX_BODY` 65534, `TXQ_DEPTH` 4, `REGISTRY_REF`, `VC_REF`. -/
def ref : Config := Config.reference 0

/-- `zero` in a given parser state, running. -/
def parserAt (ps : ParserState) : State := { zero with run := true, ps := ps }

/-- The parser of vector P1 after its body byte: it waits for the checksum of `7E 00 02 8A 06`. -/
def p1 : State :=
  { parserAt .readCksum with frameLen := 2, rxCnt := 2, ftype := 0x8A, rxSum := 0x90, bodyBuf := [(0, 0x06)] }

/-- Vector P1's record held. -/
def p1Held : State := { p1 with ps := .complete, rxCk := 0x6F, foKind := .typed, foClass := 11 }

/-- The next state a result answers. -/
def after (r : Result) : Option State :=
  match r with
  | .next t => some t
  | .fault _ => none
  | .refused _ => none

/-- The next state a command word leads to. -/
def runs (w : Word16) (s : State) : Option State := after (runCommand w s)

/-- A state with a given response in place of the one it has. -/
def answered (err : Bool) (n : BitVec 2) (b0 b1 : Byte) (s : State) : Option State :=
  some { s with rsp := some ⟨err, n, b0, b1⟩ }

/-- The next state of a command error: `cmd_err` 1, `ev` bit 8, response `(1,0,00,00)`. -/
def errored (s : State) : Option State := answered true 0 0 0 { s with cmdErr := true, ev := 0x100 }

/-! ### Well-formedness -/

theorem test_wf_regRd : (Instr.regRd 9).wellFormed = false ∧ (Instr.regRd 7).wellFormed = true := by decide
theorem test_wf_regRdReserved :
    (Instr.regRdReserved 7).wellFormed = false ∧ (Instr.regRdReserved 8).wellFormed = true := by decide
theorem test_wf_frameGeneric :
    (Instr.frameGeneric 0x8A).wellFormed = false ∧ (Instr.frameGeneric 0x42).wellFormed = true := by decide

/-! ### Decoding: words written out from the encodings of 30_encoding.md -/

/-- R110, R106: control commands, `OP` 0, 13, 14, 15; the operands in `A` and `D`. -/
theorem test_decode_control :
    decodeCommand 0b0000000000000000 = .nop ∧ decodeCommand 0b1101000100000000 = .prsCtrl true ∧
    decodeCommand 0b1101000000000000 = .prsCtrl false ∧ decodeCommand 0b1110001000000001 = .tmoSet 2 0x01 ∧
    decodeCommand 0b1111011000000000 = .regRd 6 ∧ decodeCommand 0b1111100000000000 = .regRdReserved 8 := by decide

/-- R106: checksum commands, `OP` 1 to 4. -/
theorem test_decode_checksum :
    decodeCommand 0b0001000000000000 = .ckClear ∧ decodeCommand 0b0010000010001010 = .ckAdd 0x8A ∧
    decodeCommand 0b0011000000000000 = .ckValue ∧ decodeCommand 0b0100000001101111 = .ckVerify 0x6F := by decide

/-- R106: codec commands, `OP` 5 to 7. -/
theorem test_decode_codec :
    decodeCommand 0b0101000001111110 = .escEnc 0x7E ∧ decodeCommand 0b0110000001111101 = .escDec 0x7D ∧
    decodeCommand 0b0111000000000000 = .escClr := by decide

/-- R106: composer commands, `OP` 8 to 12. -/
theorem test_decode_composer :
    decodeCommand 0b1000000000000001 = .txLenH 0x01 ∧ decodeCommand 0b1001000000000010 = .txLenL 0x02 ∧
    decodeCommand 0b1010000010001010 = .txByte 0x8A ∧ decodeCommand 0b1011000000000000 = .txEnd ∧
    decodeCommand 0b1100000000000000 = .txAbort := by decide

/-- R105, CT2, CT4, CT5, CT8, CK15: unused bits are ignored. -/
theorem test_decode_unused_bits :
    decodeCommand 0x0FFF = .nop ∧ decodeCommand 0xD300 = .prsCtrl true ∧ decodeCommand 0xD200 = .prsCtrl false ∧
    decodeCommand 0xEFAB = .tmoSet 3 0xAB ∧ decodeCommand 0x2F8A = .ckAdd 0x8A ∧ decodeCommand 0xF7FF = .regRd 7 := by
  decide

/-- R112: the registry's fifteen tags. R111: every other tag, three at the edges of the table. -/
theorem test_decode_tags :
    [0x00, 0x01, 0x08, 0x10, 0x11, 0x17, 0x80, 0x81, 0x88, 0x89, 0x8A, 0x8B, 0x90, 0x91, 0x97].map decodeTag =
      [.frameTxReq64, .frameTxReq16, .frameAtCmd, .frameZbTxReq, .frameExplicitTx, .frameRemoteAtReq, .frameRx64,
        .frameRx16, .frameAtRsp, .frameTxStatus, .frameModemStatus, .frameZbTxStatus, .frameZbRx, .frameExplicitRx,
        .frameRemoteAtRsp] ∧
    decodeTag 0x02 = .frameGeneric 0x02 ∧ decodeTag 0x98 = .frameGeneric 0x98 ∧ decodeTag 0xFF = .frameGeneric 0xFF := by
  decide

/-- What no row of the table has is refused. -/
theorem test_decodeTableWord :
    decodeTableWord 16 0x208A = some (.ckAdd 0x8A) ∧ decodeTableWord 8 0x8A = some .frameModemStatus ∧
    decodeTableWord 16 0x10000 = none ∧ decodeTableWord 8 0x100 = none ∧ decodeTableWord 32 0 = none := by decide

/-- The next step after reset runs a placed word: a command, a command error, a tag whose checksum is escaped. -/
theorem test_place_command :
    step (State.reset.withFetchWord 16 0x208A) = exec (.ckAdd 0x8A) State.reset := by rfl
theorem test_place_tag :
    step (State.reset.withFetchWord 8 0x81) = exec .frameRx16 { State.reset with
      run := true, ps := .readCksum, frameLen := 1, rxCnt := 1, ftype := 0x81, rxSum := 0x81, rxCk := 0x7E } := by rfl

/-- R115: assembler lines. -/
theorem test_asm :
    asmLine (.ckAdd 0x8A) = some "CK_ADD 0x8A" ∧ asmLine (.prsCtrl true) = some "PRS_CTRL run=1" ∧
    asmLine (.tmoSet 2 0x01) = some "TMO_SET 2, 0x01" ∧ asmLine (.regRd 6) = some "REG_RD 6" ∧
    asmLine .frameRx64 = none := by decide

/-! ### Commands: one step each -/

/-- CT2 -/
theorem test_nop : runs 0x0FFF zero = answered false 0 0 0 zero := by decide
/-- CK1 -/
theorem test_ckClear :
    runs 0x1000 { zero with hcSum := 0x5A } = answered false 0 0 0 zero := by decide
/-- CK9: the carry is discarded. -/
theorem test_ckAdd :
    runs 0x2001 { zero with hcSum := 0xFF } = answered false 0 0 0 { zero with hcSum := 0x00 } := by decide
/-- CK6 -/
theorem test_ckValue :
    runs 0x3000 { zero with hcSum := 0x90 } = answered false 1 0x6F 0 { zero with hcSum := 0x90 } := by decide
/-- CK7: a match does not update the sum. -/
theorem test_ckVerify :
    runs 0x406F { zero with hcSum := 0x90 } = answered false 1 0x01 0 { zero with hcSum := 0x90 } := by decide
/-- CK13 -/
theorem test_ckVerify_mismatch :
    runs 0x40FF { zero with hcSum := 0xFF } = answered false 1 0x00 0 { zero with hcSum := 0xFF } := by decide
/-- E1 to E4 -/
theorem test_escEnc_special :
    [0x507E, 0x507D, 0x5011, 0x5013].map (fun w => runs w zero) =
      [0x5E, 0x5D, 0x31, 0x33].map (fun b => answered false 2 0x7D b zero) := by decide
/-- E6: the second byte of a pair is not special. -/
theorem test_escEnc_plain : runs 0x505E zero = answered false 1 0x5E 0 zero := by decide
/-- E11 -/
theorem test_escDec_marker :
    runs 0x607D zero = answered false 0 0 0 { zero with hdEsc := true } := by decide
/-- E17: a second marker is data. -/
theorem test_escDec_pair :
    runs 0x607D { zero with hdEsc := true } = answered false 1 0x5D 0 zero := by decide
/-- E22 -/
theorem test_escClr :
    runs 0x7000 { zero with hdEsc := true } = answered false 0 0 0 zero := by decide
/-- X10, first command -/
theorem test_txLenH : runs 0x8001 zero = answered false 0 0 0 { zero with txLenHi := 0x01 } := by decide
/-- X17, third command: the open frame stays open. -/
theorem test_txLenH_open :
    runs 0x8000 { zero with txOpen := true, txRem := 1 } = errored { zero with txOpen := true, txRem := 1 } := by
  decide
/-- X10, second command: the low byte alone may be 0, and the length is raw. -/
theorem test_txLenL :
    runs 0x9000 { zero with txLenHi := 0x01, txSum := 0x90 } =
      answered false 0 0 0 { zero with
        txLenHi := 0x01, txOpen := true, txRem := 0x0100, txq := [0x7E, 0x01, 0x00] } := by decide
/-- X13 -/
theorem test_txLenL_zero : runs 0x9000 zero = errored zero := by decide
/-- X2, the byte `7E`: the queue takes the pair, the sum the logical byte. -/
theorem test_txByte :
    runs 0xA07E { zero with txOpen := true, txRem := 4, txSum := 0x11 } =
      answered false 0 0 0 { zero with txOpen := true, txRem := 3, txSum := 0x8F, txq := [0x7D, 0x5E] } := by decide
/-- Program D step 8 -/
theorem test_txByte_full :
    runs 0xA043 { zero with txOpen := true } = errored { zero with txOpen := true } := by decide
/-- X3: the checksum `7E` is escaped, the sum is kept. -/
theorem test_txEnd :
    runs 0xB000 { zero with txOpen := true, txSum := 0x81 } =
      answered false 0 0 0 { zero with txSum := 0x81, txq := [0x7D, 0x5E] } := by decide
/-- Program D step 6 -/
theorem test_txEnd_short :
    runs 0xB000 { zero with txOpen := true, txRem := 1 } = errored { zero with txOpen := true, txRem := 1 } := by
  decide
/-- X14: what is queued stays queued. -/
theorem test_txAbort :
    runs 0xC000 { zero with txOpen := true, txRem := 4, txSum := 0x10, txq := [0x7E, 0x00, 0x05, 0x10] } =
      answered false 0 0 0 { zero with txSum := 0x10, txq := [0x7E, 0x00, 0x05, 0x10] } := by decide
/-- F1: a stop mid-frame is silent and keeps `frame_len`. -/
theorem test_prsCtrl_stop :
    runs 0xD000 { parserAt .readType with frameLen := 2, rxEsc := true, idleCnt := 5 } =
      answered false 0 0 0 { zero with frameLen := 2 } := by decide
/-- F3: a stop keeps a completed record. -/
theorem test_prsCtrl_keeps_record :
    runs 0xD000 p1Held = answered false 0 0 0 { p1Held with run := false } := by decide
/-- CT8 -/
theorem test_tmoSet :
    runs 0xEFAB { zero with tmo := 0x00010003 } =
      answered false 0 0 0 { zero with tmo := 0xAB010003 } := by decide
/-- CT14 and CT7: selectors 0, 1, 2, 6 while P1's record is held; 4, 5. -/
theorem test_regRd :
    [0xF000, 0xF100, 0xF200, 0xF600, 0xF400, 0xF500].map (fun w => runs w { p1Held with tmo := 0x00010003 }) =
      [(0x00, 0x16), (0x00, 0x02), (0x00, 0x02), (0x90, 0x00), (0x00, 0x03), (0x00, 0x01)].map
        (fun v => answered false 2 v.1 v.2 { p1Held with tmo := 0x00010003 }) := by decide
/-- CT11 -/
theorem test_regRd_clears :
    runs 0xF700 { zero with cmdErr := true } = answered false 2 0x00 0x80 zero := by decide
/-- CT12, CT13 -/
theorem test_regRdReserved : runs 0xF800 zero = errored zero ∧ runs 0xFF00 zero = errored zero := by decide

/-! ### Dispatch of type tags -/

/-- P15a and the other rows of R112, with `VC_REF`: class and kind of the record, one tag a row. -/
theorem test_registry_rows :
    ([(0x00, 1), (0x01, 2), (0x08, 3), (0x10, 4), (0x11, 5), (0x17, 6), (0x80, 7), (0x81, 8), (0x88, 9), (0x89, 10),
      (0x8A, 11), (0x8B, 12), (0x90, 13), (0x91, 14), (0x97, 15)] : List (Byte × Byte)).all (fun row =>
        after (registryDispatcher ref row.1 p1) ==
          some { p1 with ps := .complete, foKind := .typed, foClass := row.2, ev := 0x001 }) = true := by decide
/-- P1 and S2, in any instance. -/
theorem test_frameModemStatus :
    exec .frameModemStatus p1 = .next { p1 with ps := .complete, foKind := .typed, foClass := 11, ev := 0x001 } := by
  rfl
/-- P9, in any instance. -/
theorem test_frameGeneric :
    exec (.frameGeneric 0x42) p1 = .next { p1 with ps := .complete, foKind := .generic, foClass := 0, ev := 0x001 } := by
  rfl
/-- P15b: an instance whose check answers a fault. -/
theorem test_variant_fault :
    registryDispatcher { ref with variantCheck := fun _ _ _ => .fault 0x01 } 0x88 p1 =
      .next { p1 with ps := .complete, foKind := .errorMarker, foClass := 9, foFault := 0x01, ev := 0x080 } := by rfl
/-- P14: an empty modem-status body, under `VC_REF`. -/
theorem test_len_mismatch :
    after (registryDispatcher ref 0x8A { p1 with frameLen := 1 }) = some { p1 with
      frameLen := 1, ps := .awaitDelim, ev := 0x010 } := by decide

/-! ### The parser's events and the clock edge -/

/-- P18: a delimiter in `READ_LEN_MSB` is a length byte. -/
theorem test_len_raw :
    after (rxByte ref (registryDispatcher ref) 0x7E (parserAt .readLenMsb)) =
      some { parserAt .readLenLsb with lenHi := 0x7E } := by decide
/-- P8: `MAX_BODY = 4`, length 6 is oversize, length 5 is not. -/
theorem test_len_oversize :
    rxByte { ref with maxBody := 4 } (registryDispatcher ref) 0x06 (parserAt .readLenLsb) =
      .next { parserAt .awaitDelim with frameLen := 6, ev := 0x008 } ∧
    rxByte { ref with maxBody := 4 } (registryDispatcher ref) 0x05 (parserAt .readLenLsb) =
      .next { parserAt .readType with frameLen := 5 } := ⟨by rfl, by rfl⟩
/-- P19: an escaped delimiter is the data byte `5E`. -/
theorem test_body_escaped :
    after (rxByte ref (registryDispatcher ref) 0x7E { parserAt .readBody with
        frameLen := 2, rxCnt := 1, ftype := 0x8A, rxSum := 0x8A, rxEsc := true }) =
      some { parserAt .readCksum with
        frameLen := 2, rxCnt := 2, ftype := 0x8A, rxSum := 0xE8, bodyBuf := [(0, 0x5E)] } := by decide
/-- P12: two events in one cycle. -/
theorem test_unescaped_and_failed :
    after (rxByte ref (registryDispatcher ref) 0x7E p1) =
      some { p1 with ps := .awaitDelim, rxCk := 0x7E, ev := 0x042 } := by decide
/-- Program E step 10. -/
theorem test_timeout :
    tick { parserAt .readBody with tmo := 3, idleCnt := 2, rxCnt := 1 } =
      { parserAt .awaitDelim with tmo := 3, idleCnt := 0, rxCnt := 1, ev := 0x020 } := by decide
/-- One edge of the block of the vectors. -/
def edge (inp : PortInputs) (s : State) : Option State := after (cycle ref (registryDispatcher ref) inp s)

/-- Y1 edge 7: the record is accepted, no byte is. -/
theorem test_edge_accept :
    edge { PortInputs.idle with foReady := true, rxValid := true, rxData := 0x7E } { p1Held with ev := 0x001 } =
      some { p1Held with ps := .awaitDelim } := by decide
/-- Y4: the byte before the stop of the same edge. -/
theorem test_edge_byte_then_stop :
    edge
      { PortInputs.idle with rxValid := true, rxData := 0x6F, cmdValid := true, cmdWord := 0xD000 } p1 =
    answered false 0 0 0 { p1Held with run := false, ev := 0x001 } := by decide
/-- Y2 edges 3 and 5: one free entry takes no command, three do; the head of the queue leaves at both. -/
theorem test_edge_backpressure :
    edge { offerCommand 0x0000 with txReady := true }
      { zero with txq := [0x7E, 0x00, 0x02] } = some { zero with txq := [0x00, 0x02] } ∧
    edge { offerCommand 0x0000 with txReady := true }
      { zero with txq := [0x02] } = answered false 0 0 0 zero := by decide
/-- Z1 and Z3: reset before everything else. -/
theorem test_edge_reset :
    edge
      { PortInputs.idle with rst := true, rxValid := true, cmdValid := true, txReady := true }
      { parserAt .readBody with cmdErr := true, txq := [0x7E], txOpen := true, hcSum := 0x90, hdEsc := true } =
    some zero := by decide

/-- Z3 with R87: in a reset cycle `tx_valid` is 0 and `tx_data` is still the head of the queue. -/
theorem test_reset_cycle_outputs :
    let o := portOutputs ref { PortInputs.idle with rst := true } { p1Held with txq := [0x7E, 0x00] }
    o.rxReady = false ∧ o.cmdReady = false ∧ o.foValid = false ∧ o.txValid = false ∧ o.txData = some 0x7E := by decide

/-- X1, X2: composed frames; the sequence check of 2.2. -/
theorem test_compose :
    compose 0x8A [0x06] = [0x7E, 0x00, 0x02, 0x8A, 0x06, 0x6F] ∧
    compose 0x11 [0x7E, 0x7D, 0x13, 0x00] =
      [0x7E, 0x00, 0x05, 0x7D, 0x31, 0x7D, 0x5E, 0x7D, 0x5D, 0x7D, 0x33, 0x00, 0xE0] ∧
    unescape false [0x7D, 0x5E, 0x41, 0x7D, 0x5D] = ([0x7E, 0x41, 0x7D], false) ∧
    unescape false [0x41, 0x7D] = ([0x41], true) := by decide

/-! ### Witnesses: concrete states and operands that meet the hypotheses of each statement, one for each clause, at the
values where clauses meet. The number of lines of a witness is that of its statement's clauses. -/

/-- Inputs for the next edge. -/
def given (inp : PortInputs) (s : State) : State := { s with inputs := [inp] }

/-- The composer with an open frame and the given number of bytes to come. -/
def composing (n : Word16) : State := { zero with txOpen := true, txRem := n }

theorem witness_ResetEdgeDominatesEveryEvent :
    { PortInputs.idle with rst := true, rxValid := true, cmdValid := true }.rst = true := by decide

/-- The states of both branches of each command. -/
theorem witness_ComposerCommandResults :
    zero.txOpen = false ∧ (zero.txLenHi ++ 0x00#8 : Word16) = 0 ∧ (zero.txLenHi ++ 0x01#8 : Word16) ≠ 0 ∧
    ((composing 1).txOpen = true ∧ (composing 1).txRem ≠ 0) ∧
    ((composing 0).txOpen = true ∧ (composing 0).txRem = 0) := by decide

theorem witness_ComposerCommandErrors :
    (composing 1).txOpen = true ∧ (zero.txLenHi ++ 0x00#8 : Word16) = 0 ∧ zero.txOpen = false ∧
    (composing 0).txRem = 0 ∧ (composing 1).txRem ≠ 0 := by decide

theorem witness_ParserControlResults :
    (zero.ps = .awaitDelim) ∧ (p1Held.ps = .complete) ∧ (parserAt .readLenMsb).ps = .readLenMsb ∧
    (parserAt .readLenLsb).ps = .readLenLsb ∧ (parserAt .readType).ps = .readType ∧
    (parserAt .readBody).ps = .readBody ∧ (parserAt .readCksum).ps = .readCksum := by decide

theorem witness_TimeoutSetWritesOneByte : (0 : BitVec 2) ≠ 3 ∧ (3 : BitVec 2) ≠ 0 := by decide

theorem witness_RegisterReadResults : 8 ≤ (8 : BitVec 4).toNat ∧ 8 ≤ (15 : BitVec 4).toNat := by decide

/-- Both sides of the equivalence at its edges: selectors 8 and 15 are reserved, 7 is not. -/
theorem witness_ReservedSelectorIsCommandError :
    runs 0xF800 zero = errored zero ∧ runs 0xFFFF zero = errored zero ∧ runs 0xF7FF zero ≠ errored zero := by decide

/-- The five causes, and a word beside each that has none: `TX_LENH` closed, `TX_LENL` with a length, `TX_BYTE` and
`TX_END` in their turn, selector 7. -/
theorem witness_CommandErrorExactlyFromItsCauses :
    [(0x8000, composing 1), (0x9000, zero), (0xA000, composing 0), (0xB000, composing 1), (0xF800, zero)].map
        (fun c => ((runs c.1 c.2).map (·.rsp))) = List.replicate 5 (some (some ⟨true, 0, 0, 0⟩)) ∧
    [(0x8000, zero), (0x9001, zero), (0xA000, composing 1), (0xB000, composing 0), (0xF700, zero)].map
        (fun c => ((runs c.1 c.2).map (fun t => t.rsp.map (·.err)))) = List.replicate 5 (some (some false)) := by decide

theorem witness_EveryCommandResponds :
    (⟨true, 0, 0, 0⟩ : Response).err = true ∧ (⟨false, 1, 0x6F, 0⟩ : Response).n.toNat ≤ 1 ∧
    (⟨false, 0, 0, 0⟩ : Response).n = 0 := by decide

/-- A command of each kind the clauses separate: opcodes 0, 1, 6, 8, 12, 13, 14, 15. -/
theorem witness_CommandsLeaveOtherUnitsAlone :
    ([0x0000, 0x1000, 0x6041, 0x8001, 0xC000, 0xD000, 0xE003, 0xF700] : List Word16).all
      (fun w => (runs w p1).isSome) = true := by decide

theorem witness_RegistryRowsDispatchToTheirClass :
    ((.frameRemoteAtRsp, 0x97, 15) : Instr × Byte × Byte) ∈
      ([(.frameTxReq64, 0x00, 1), (.frameTxReq16, 0x01, 2), (.frameAtCmd, 0x08, 3), (.frameZbTxReq, 0x10, 4),
      (.frameExplicitTx, 0x11, 5), (.frameRemoteAtReq, 0x17, 6), (.frameRx64, 0x80, 7), (.frameRx16, 0x81, 8),
      (.frameAtRsp, 0x88, 9), (.frameTxStatus, 0x89, 10), (.frameModemStatus, 0x8A, 11), (.frameZbTxStatus, 0x8B, 12),
      (.frameZbRx, 0x90, 13), (.frameExplicitRx, 0x91, 14), (.frameRemoteAtRsp, 0x97, 15)] :
      List (Instr × Byte × Byte)) := by decide

theorem witness_UnknownTagCompletesAsGeneric :
    Config.impl.registry 0x42 = 0 ∧ Config.impl.registry 0x02 = 0 ∧ Config.impl.registry 0xFF = 0 := by decide

theorem witness_ModemStatusExampleCompletesTyped : frameBody p1 = [0x06] ∧ ref.Valid ∧ Config.impl.Valid :=
  ⟨by decide, Config.reference_valid 0, Config.impl_valid⟩

theorem witness_DispatchLeavesTheRestAlone : ∃ t, exec (decodeTag 0x8A) p1 = .next t := ⟨_, rfl⟩

theorem witness_DelimiterSearch :
    (parserAt .awaitDelim).ps = .awaitDelim ∧ (0x7E : Byte) = delim ∧ (0x7D : Byte) ≠ delim := by decide

/-- Lengths 0, 1, and with `MAX_BODY = 4` the largest good one 5 and the smallest oversize 6. -/
theorem witness_LengthBytesAreRawAndBounded :
    (parserAt .readLenMsb).ps = .readLenMsb ∧ (parserAt .readLenLsb).ps = .readLenLsb ∧
    BitVec.ofNat 16 ((parserAt .readLenLsb).lenHi.toNat * 256 + (0x00 : Byte).toNat) = 0 ∧
    ¬ (BitVec.ofNat 16 (0 * 256 + (0x05 : Byte).toNat)).toNat - 1 > 4 ∧
    (BitVec.ofNat 16 (0 * 256 + (0x06 : Byte).toNat)).toNat - 1 > 4 := by decide

theorem witness_EscapeMarkerWaitsForItsPair :
    (parserAt .readType).ps = .readType ∧ (parserAt .readBody).ps = .readBody ∧ p1.ps = .readCksum ∧
    (parserAt .readType).rxEsc = false ∧ (parserAt .readBody).rxEsc = false ∧ p1.rxEsc = false := by decide

/-- A plain byte, a special one, and an escape marker that is itself escaped; lengths 1 and 2. -/
theorem witness_TypeByteStartsTheFrameData :
    (parserAt .readType).ps = .readType ∧ (0x8A : Byte) ≠ escByte ∧ (0x11 : Byte) ≠ escByte ∧
    { parserAt .readType with rxEsc := true }.rxEsc = true ∧
    { parserAt .readType with frameLen := 1 }.frameLen = 1 ∧ { parserAt .readType with frameLen := 2 }.frameLen ≠ 1 := by
  decide

theorem witness_BodyByteIsStoredSummedCounted :
    (parserAt .readBody).ps = .readBody ∧ (0x06 : Byte) ≠ escByte ∧
    { parserAt .readBody with rxEsc := true }.rxEsc = true := by decide

/-- A checksum that verifies, one that does not, and an escaped one. -/
theorem witness_ChecksumByteDecidesTheFrame :
    p1.ps = .readCksum ∧ (0x6F : Byte) ≠ escByte ∧ p1.rxSum + 0x6F = 0xFF ∧ p1.rxSum + 0x70 ≠ 0xFF ∧
    { p1 with rxEsc := true }.rxEsc = true := by decide

/-- Stopped; waiting for a delimiter; a disabled timeout; one below the timeout; at the timeout; at saturation. -/
theorem witness_TickCountsAndTimesOut :
    { p1 with run := false }.run = false ∧ (parserAt .awaitDelim).ps = .awaitDelim ∧
    (p1.run = true ∧ p1.ps = .readCksum ∧ p1.tmo = 0) ∧
    (tick { p1 with tmo := 3, idleCnt := 1 }).idleCnt = 2 ∧ (tick { p1 with tmo := 3, idleCnt := 2 }).ps = .awaitDelim ∧
    (tick { p1 with idleCnt := 0xFFFFFFFF }).idleCnt = 0xFFFFFFFF := by decide

theorem witness_CountBelowTimeoutAfterTick :
    { p1 with tmo := 3, idleCnt := 1 }.run = true ∧ (tick { p1 with tmo := 3, idleCnt := 1 }).ps.midFrame = true ∧
    (tick { p1 with tmo := 3, idleCnt := 1 }).tmo ≠ 0 := by decide

/-- Index 0 of a body of one byte is read, index 1 is not; with no record nothing is. -/
theorem witness_BodyReadPortShowsTheBody :
    (p1Held.ps = .complete ∧ (0 : Word16).toNat + 1 < p1Held.frameLen.toNat) ∧
    p1Held.frameLen.toNat ≤ (1 : Word16).toNat + 1 ∧ p1.ps ≠ .complete := by decide

theorem witness_ParserFollowsTheTransitionTable :
    eventEnabled (.rxByte 0x6F) p1 = true ∧ eventEnabled .tick p1 = true ∧ eventEnabled .foAccept p1Held = true ∧
    eventEnabled .txPop { zero with txq := [0x7E] } = true ∧ eventEnabled (.cmd 0xD000) p1 = true ∧
    eventEnabled .reset p1 = true := by decide

/-- A tick, an acceptance, and a body byte at index 0. -/
theorem witness_ParserEventsLeaveOtherUnitsAlone :
    (∃ t, applyEvent ref (registryDispatcher ref) .tick p1 = .next t) ∧ p1.bodyBuf.wf ∧
    (∃ t, applyEvent ref (registryDispatcher ref) .foAccept p1Held = .next t) ∧
    (∃ t, applyEvent ref (registryDispatcher ref) (.rxByte 0x06) { parserAt .readBody with rxCnt := 1 } = .next t) ∧
    (parserAt .readBody).ps = .readBody ∧ (decodeStep false 0x06).out = some 0x06 :=
  ⟨⟨_, rfl⟩, by decide, ⟨_, rfl⟩, ⟨_, rfl⟩, rfl, by decide⟩

theorem witness_ParserStepIgnoresOtherUnits :
    (∃ t, applyEvent ref (registryDispatcher ref) .tick p1 = .next t) ∧
    ∃ t, applyEvent ref (registryDispatcher ref) (.rxByte 0x6F) p1 = .next t := ⟨⟨_, rfl⟩, ⟨_, rfl⟩⟩

/-- A checksum failure (the last clause but one) and a length of zero (the last clause). -/
theorem witness_AbandonmentKeepsTheDiagnosis :
    eventEnabled (.rxByte 0x70) p1 = true ∧
    ((after (eventStep ref (registryDispatcher ref) (.rxByte 0x70) p1)).map (·.ev)) = some 0x002 ∧
    ((after (eventStep ref (registryDispatcher ref) (.rxByte 0x00) (parserAt .readLenLsb))).map (·.ev)) = some 0x004 ∧
    (0x002#9 &&& 0x03E#9 ≠ 0 ∧ 0x002#9 &&& 0x00C#9 = 0) ∧ (0x004#9 &&& 0x03E#9 ≠ 0 ∧ 0x004#9 &&& 0x00C#9 ≠ 0) := by
  decide

theorem witness_StepRunsTheOfferedCommand :
    (nextInputs (given (offerCommand 0x208A) zero)).rst = false ∧
    (nextInputs (given (offerCommand 0x208A) zero)).cmdValid = true ∧
    cmdReady Config.impl (given (offerCommand 0x208A) zero) = true := by decide

/-- The checksum `6F`, and the checksum `7E` as the second byte of its pair. -/
theorem witness_StepRunsTheCompletedTag :
    (let s := given (offerByte 0x6F) p1
     (nextInputs s).rst = false ∧ (nextInputs s).rxValid = true ∧ (nextInputs s).cmdValid = false ∧ s.run = true ∧
      s.ps = .readCksum ∧ (decodeStep s.rxEsc (nextInputs s).rxData).out = some 0x6F ∧ s.rxSum + 0x6F = 0xFF) ∧
    (decodeStep true 0x5E).out = some 0x7E ∧ (0x81 + 0x7E : Byte) = 0xFF := by decide

theorem witness_PlacedWordRunsFirst : (0 < 65536 ∧ 65535 < 65536) ∧ (0 < 256 ∧ 255 < 256) := by decide

/-- A queue of one byte, at the edge between holding a byte and being empty. -/
theorem witness_EdgeIsAnEventRun : { zero with txq := [0x7E] }.txq = 0x7E :: [] := by decide

theorem witness_HandshakeSignals :
    PortInputs.idle.rst = false ∧ p1Held.ps = .complete ∧ p1.ps ≠ .complete := by decide

/-- A queue as long as its depth has no free entry, whatever the depth is. -/
theorem witness_WhatIsNotReadyIsNotTaken :
    (∃ s : State, Config.impl.txqDepth < s.txq.length + 3) ∧ zero.run = false ∧ p1Held.ps = .complete :=
  ⟨⟨{ zero with txq := List.replicate Config.impl.txqDepth 0x00 }, by simp⟩, rfl, rfl⟩

theorem witness_RecordIsHeldUntilAccepted :
    p1Held.ps = .complete ∧ (nextInputs p1Held).rst = false ∧ (nextInputs p1Held).foReady = false ∧
    ∃ t, step p1Held = .next t := ⟨rfl, rfl, rfl, ⟨_, rfl⟩⟩

/-- The same edge takes no command and takes one. -/
theorem witness_PulsesComeFromTheirEdge :
    (nextInputs zero).cmdValid = false ∧
    ((nextInputs (given (offerCommand 0x0000) zero)).rst = false ∧
      (nextInputs (given (offerCommand 0x0000) zero)).cmdValid = true ∧ zero.txq.length + 3 ≤ Config.impl.txqDepth) :=
  ⟨rfl, rfl, rfl, by simp [zero, State.resetOf, Config.impl]⟩

theorem witness_OneParserOutcomePerEdge :
    (∃ t, step p1 = .next t) ∧ (0x020#9).getLsbD 5 = true ∧ (0x042#9).getLsbD 6 = true := ⟨⟨_, rfl⟩, rfl, rfl⟩

/-- Vector P9 after its type byte: the parser waits for the checksum of a frame of one logical byte, which every
`MAX_BODY` admits. -/
def p9 : State := { parserAt .readCksum with frameLen := 1, rxCnt := 1, ftype := 0x42, rxSum := 0x42 }

theorem witness_StepKeepsTheInvariant : Inv Config.impl p9 ∧ ∃ t, step (given (offerByte 0xBD) p9) = .next t := by
  refine ⟨⟨?_, ?_, ?_, ?_, ?_, ?_, ?_, ?_, ?_, ?_, ?_, ?_⟩, ⟨_, rfl⟩⟩
  case refine_2 => exact fun _ => ⟨Nat.le_refl 1, Nat.le_add_left 1 _⟩
  case refine_10 => exact Nat.zero_le _
  all_goals decide

theorem witness_BodyWritesStayInsideTheBuffer :
    ref.Valid ∧ Inv ref { parserAt .readBody with
      frameLen := 2, rxCnt := 1, ftype := 0x8A, rxSum := 0x8A } ∧ (parserAt .readBody).ps = .readBody := by
  refine ⟨Config.reference_valid 0, ⟨?_, ?_, ?_, ?_, ?_, ?_, ?_, ?_, ?_, ?_, ?_, ?_⟩, rfl⟩ <;> decide

theorem witness_DecodeReadsEncodeBack :
    (Instr.regRd 7).WellFormed ∧ (Instr.regRdReserved 8).WellFormed ∧ (Instr.frameGeneric 0x42).WellFormed ∧
    (Instr.tmoSet 3 0xFF).WellFormed := by decide

/-- Opcodes of each kind: none used, `D` used, `A[0]`, `A[1:0]` with `D`, all of `A`. -/
theorem witness_UnusedBitsAreIgnored :
    (3#4 ≠ 13 ∧ 3#4 ≠ 14 ∧ 3#4 ≠ 15) ∧ (1#4).getLsbD 0 = (15#4).getLsbD 0 ∧
    (2#4).extractLsb' 0 2 = (14#4).extractLsb' 0 2 := by decide

theorem witness_ChecksumLaws : ([0x8A, 0x06] : List Byte).Perm [0x06, 0x8A] := by decide

theorem witness_ChecksumDetectsOneFlippedBit : 0 < 8 ∧ 7 < 8 := by decide

theorem witness_EscapedSequencesHoldNoDelimiter : escByte ∈ escape [delim] := by decide

theorem witness_TxFrameQueuesTheCanonicalFrame :
    zero.txOpen = false ∧ ([] : List Byte).length ≤ 65534 ∧ (List.replicate 65534 (0x00 : Byte)).length ≤ 65534 :=
  ⟨rfl, Nat.zero_le _, by rw [List.length_replicate]⟩

theorem witness_ParsingAComposedFrameGivesItBack :
    ref.Valid ∧ zero.ps = .awaitDelim ∧ zero.bodyBuf.wf ∧ ([] : List Byte).length ≤ ref.maxBody ∧
    (List.replicate 65534 (0x00 : Byte)).length ≤ ref.maxBody :=
  ⟨Config.reference_valid 0, rfl, by decide, Nat.zero_le _, by rw [List.length_replicate]; exact Nat.le_refl 65534⟩

theorem witness_FramesAreFoundInGarbage :
    ref.Valid ∧ zero.ps = .awaitDelim ∧ zero.bodyBuf.wf ∧ ([0x06] : List Byte).length ≤ ref.maxBody ∧
    delim ∉ ([0x00, 0xFF, 0x7D, 0x11] : List Byte) ∧ delim ∉ ([] : List Byte) ∧
    ref.variantCheck (ref.registry 0x8A) 0x8A [0x06] = .ok ∧ ref.variantCheck (ref.registry 0x42) 0x42 [0x06] = .ok :=
  ⟨Config.reference_valid 0, rfl, by decide, by decide, by decide, by decide, by decide, by decide⟩

end Sys2Proof.Tests
end

section
/-! The clock edge as a run of the event model (O38; 00_scope.md R7, 20_memory.md R87, R88): the handshakes as
conditions on the registers, when the events of a list are enabled one after the other, and that those of an edge are. -/

namespace Sys2Proof.Machine

/-- A byte is accepted by a running parser that holds no record (R86). -/
@[simp] theorem rxReady_iff (s : State) : rxReady s = true ↔ s.run = true ∧ s.ps ≠ .complete := by
  simp [rxReady]

/-- A record is offered in `COMPLETE` (R44, R89). -/
@[simp] theorem foValid_iff (s : State) : foValid s = true ↔ s.ps = .complete := by simp [foValid]

/-- A byte is offered to the transmitter while the queue holds one (R87). -/
@[simp] theorem txValid_iff (s : State) : txValid s = true ↔ s.txq ≠ [] := by simp [txValid]

/-- A command is accepted while the queue has three free entries (R87, R311). -/
@[simp] theorem cmdReady_iff (cfg : Config) (s : State) :
    cmdReady cfg s = true ↔ s.txq.length + 3 ≤ cfg.txqDepth := by simp [cmdReady]

section
variable {cfg : Config} {disp : Dispatcher}

@[simp] theorem enabledAlong_nil (s : State) : enabledAlong cfg disp [] s := trivial

@[simp] theorem enabledAlong_cons (e : Event) (es : List Event) (s : State) :
    enabledAlong cfg disp (e :: es) s ↔
      eventEnabled e s = true ∧ ∀ t, applyEvent cfg disp e s = .next t → enabledAlong cfg disp es t := Iff.rfl

/-- Events that are enabled in every state are enabled one after the other. -/
theorem enabledAlong_of_always {es : List Event} (h : ∀ e ∈ es, ∀ t, eventEnabled e t = true) (s : State) :
    enabledAlong cfg disp es s := by
  induction es generalizing s with
  | nil => exact enabledAlong_nil s
  | cons e es ih =>
    obtain ⟨he, hes⟩ := List.forall_mem_cons.mp h
    exact ⟨he s, fun t _ => ih hes t⟩

/-- An event that happens or does not, before a list of events: it is enabled when it happens, and the list is enabled
both after it and without it. -/
theorem enabledAlong_optional_append {p : Prop} [Decidable p] {e : Event} {es : List Event} {s : State}
    (happens : p → enabledAlong cfg disp (e :: es) s) (absent : ¬ p → enabledAlong cfg disp es s) :
    enabledAlong cfg disp ((if p then [e] else []) ++ es) s := by
  split
  · next hp => exact happens hp
  · next hp => exact absent hp

/-- The end of an edge: the byte is accepted where the parser is ready, and `Tick` and `Cmd` can always happen. -/
theorem enabledAlong_byte_or_tick_then_cmd {p q : Prop} [Decidable p] [Decidable q] {b : Byte} {s : State}
    (ready : p → rxReady s = true) (w : Word16) :
    enabledAlong cfg disp ((if p then [.rxByte b] else [.tick]) ++ (if q then [.cmd w] else [])) s := by
  have cmd_enabled (t : State) : enabledAlong cfg disp (if q then [.cmd w] else []) t :=
    enabledAlong_of_always (by split <;> simp [eventEnabled]) t
  split
  · next hp => exact ⟨ready hp, fun t _ => cmd_enabled t⟩
  · exact ⟨rfl, fun t _ => cmd_enabled t⟩

/-- The events of an edge are enabled where they happen (R7, R88). `TxPop` leaves the parser alone, and `FoAccept`, the
one event before the byte that changes it, happens only where no byte is accepted. -/
theorem enabledAlong_cycleEvents (inp : PortInputs) (s : State) :
    enabledAlong cfg disp (cycleEvents cfg inp s) (clearPulses s) := by
  have after_txPop (u : State) (hrun : u.run = s.run) (hps : u.ps = s.ps) :
      enabledAlong cfg disp
        ((if foValid s && inp.foReady then [.foAccept] else []) ++
          ((if inp.rxValid && rxReady s then [.rxByte inp.rxData] else [.tick]) ++
            (if inp.cmdValid && cmdReady cfg s then [.cmd inp.cmdWord] else []))) u := by
    refine enabledAlong_optional_append (fun hfo => ?_) (fun _ => ?_)
    · have hcomplete : s.ps = .complete := (foValid_iff s).mp (Bool.and_elim_left hfo)
      refine ⟨by simp [eventEnabled, hps, hcomplete], fun t _ => ?_⟩
      exact enabledAlong_byte_or_tick_then_cmd (by simp [hcomplete]) inp.cmdWord
    · exact enabledAlong_byte_or_tick_then_cmd (by simp [hrun, hps]) inp.cmdWord
  unfold cycleEvents
  split
  · exact ⟨rfl, fun t _ => enabledAlong_nil t⟩
  · simp only [List.append_assoc]
    refine enabledAlong_optional_append (fun htx => ?_) (fun _ => after_txPop _ rfl rfl)
    have hqueue : txValid (clearPulses s) = true := Bool.and_elim_left htx
    refine ⟨hqueue, fun t ht => ?_⟩
    cases ht
    exact after_txPop _ rfl rfl

end

/-- The list of R88 with every handshake written out on the registers is `cycleEvents`. -/
theorem cycleEvents_eq (cfg : Config) (inp : PortInputs) (s : State) :
    cycleEvents cfg inp s =
      if inp.rst = true then [.reset]
      else
        (if s.txq ≠ [] ∧ inp.txReady = true then [.txPop] else [])
          ++ (if s.ps = .complete ∧ inp.foReady = true then [.foAccept] else [])
          ++ (if inp.rxValid = true ∧ s.run = true ∧ s.ps ≠ .complete then [.rxByte inp.rxData] else [.tick])
          ++ (if inp.cmdValid = true ∧ s.txq.length + 3 ≤ cfg.txqDepth then [.cmd inp.cmdWord] else []) := by
  simp only [cycleEvents, Bool.and_eq_true, txValid_iff, foValid_iff, rxReady_iff, cmdReady_iff]

/-- Settles O38: the written list is `cycleEvents`, whose events `enabledAlong_cycleEvents` finds enabled. -/
theorem edgeIsAnEventRun : Obligations.EdgeIsAnEventRun := by
  intro cfg disp inp s
  refine ⟨?_, ?_, txValid_iff s, fun b rest hq => ?_⟩
  · exact congrArg (applyEvents cfg disp · (clearPulses s)) (cycleEvents_eq cfg inp s)
  · exact cycleEvents_eq cfg inp s ▸ enabledAlong_cycleEvents inp s
  · exact congrArg Host.Outcome.next (txPop_of_cons hq)

end Sys2Proof.Machine
end

section
/-! The invariant of R60 (O45, O46; 10_state.md R60, R36, R40, R42, R51, R52): it holds at reset, the parser's events
keep it one parser state at a time, the commands keep it where the queue has room, and so does every clock edge. -/

namespace Sys2Proof.Machine

section
variable {cfg : Config} {s t : State}

/-! ### States between frames -/

/-- In `AWAIT_DELIM` the invariant asks nothing of the frame registers. -/
theorem inv_of_awaitDelim (hps : s.ps = .awaitDelim) (hesc : s.rxEsc = false) (hidle : s.idleCnt = 0)
    (htx : s.txOpen = false → s.txRem = 0) (hq : s.txq.length ≤ cfg.txqDepth) (hwf : s.bodyBuf.wf)
    (hbound : ∀ c ∈ s.bodyBuf, c.1 < cfg.maxBody) : Inv cfg s where
  noneYet := by simp [hps]
  lenBounds := by simp [hps]
  bodyCount := by simp [hps]
  fullCount := by simp [hps]
  escState := by simp [hesc]
  sumSoFar := by simp [hps]
  verified := by simp [hps]
  idleZero := fun _ => hidle
  txClosed := htx
  txqBound := hq
  bodyWf := hwf
  bodyBound := hbound

/-- The reset state of every block meets the invariant (R31, R300). -/
theorem inv_resetOf (cfg : Config) : Inv cfg (State.resetOf cfg) :=
  inv_of_awaitDelim rfl rfl rfl (fun _ => rfl) (Nat.zero_le _) ⟨.nil, nofun⟩ nofun

theorem inv_resetEdge (cfg : Config) (s : State) : Inv cfg (resetEdge cfg s) := { inv_resetOf cfg with }

/-! ### Operations that do not touch what the invariant speaks of -/

theorem Inv.clearPulses (h : Inv cfg s) : Inv cfg (clearPulses s) := { h with }

theorem Inv.takeInputs (h : Inv cfg s) : Inv cfg (takeInputs s) := { h with }

theorem Inv.emit (h : Inv cfg s) (e : EventName) : Inv cfg (emit e s) := { h with }

theorem Inv.done (h : Inv cfg s) : Inv cfg (done s) := { h with }

theorem Inv.respond (h : Inv cfg s) (err : Bool) (n : BitVec 2) (b0 b1 : Byte) :
    Inv cfg (respond err n b0 b1 s) := { h with }

theorem Inv.raiseCmdErr (h : Inv cfg s) : Inv cfg (raiseCmdErr s) := { h with }

theorem Inv.txPop (h : Inv cfg s) : Inv cfg (txPop s) :=
  { h with txqBound := by simpa using Nat.le_succ_of_le h.txqBound }

theorem Inv.abandonQuietly (h : Inv cfg s) : Inv cfg (abandonQuietly s) :=
  inv_of_awaitDelim rfl rfl rfl h.txClosed h.txqBound h.bodyWf h.bodyBound

theorem Inv.abandon (h : Inv cfg s) (e : EventName) : Inv cfg (abandon e s) := (h.emit e).abandonQuietly

/-- In `COMPLETE` nothing is pending, so an accepted record leaves nothing behind (R208). -/
theorem Inv.foAccept (h : Inv cfg s) (hps : s.ps = .complete) : Inv cfg (foAccept s) := by
  have hesc : s.rxEsc = false := by simpa [hps] using h.escState
  exact inv_of_awaitDelim rfl hesc (h.idleZero (by simp [hps, ParserState.midFrame])) h.txClosed h.txqBound h.bodyWf
    h.bodyBound

/-- A `Tick` writes the count only mid-frame (R196). -/
theorem Inv.tick (h : Inv cfg s) : Inv cfg (tick s) := by
  have counted (hmid : s.ps.midFrame = true) (n : Word32) : Inv cfg { s with idleCnt := n } :=
    { h with idleZero := fun hout => absurd (hmid.symm.trans hout) (by decide) }
  rcases tick_cases s with ⟨_, e⟩ | ⟨_, hmid, _, e⟩ | ⟨_, hmid, _, _, e⟩ <;> rw [e]
  · exact h
  · exact counted hmid _
  · exact (counted hmid _).abandon .timeout

/-! ### The accepted byte, one parser state at a time -/

theorem Inv.clearIdle (h : Inv cfg s) : Inv cfg { s with idleCnt := 0 } := { h with idleZero := fun _ => rfl }

/-- R183: a frame starts with nothing counted and nothing summed. -/
theorem Inv.rxAwaitDelim (h : Inv cfg s) (b : Byte) : Inv cfg (rxAwaitDelim b s) := by
  unfold Machine.rxAwaitDelim
  split
  · exact { h with
      noneYet := fun _ => ⟨rfl, rfl⟩, lenBounds := by simp, bodyCount := by simp, fullCount := by simp,
      escState := by simp, sumSoFar := by simp, verified := by simp, idleZero := fun _ => rfl }
  · exact h

/-- R184: the raw length byte is read by no clause. -/
theorem Inv.rxLenMsb (h : Inv cfg s) (hps : s.ps = .readLenMsb) (b : Byte) : Inv cfg (rxLenMsb b s) :=
  show Inv cfg { s with lenHi := b, ps := .readLenLsb } from { h with
    noneYet := fun _ => h.noneYet (.inl hps), lenBounds := by simp, bodyCount := by simp, fullCount := by simp
    escState := by simpa [hps] using h.escState, sumSoFar := by simp, verified := by simp, idleZero := nofun }

/-- R185: the length is bounded where the parser goes on, and no clause reads it where it does not. -/
theorem Inv.rxLenLsb (h : Inv cfg s) (hps : s.ps = .readLenLsb) (b : Byte) : Inv cfg (rxLenLsb cfg b s) := by
  have hlen (l : Word16) : Inv cfg { s with frameLen := l } :=
    { h with lenBounds := by simp [hps], bodyCount := by simp [hps], fullCount := by simp [hps] }
  rcases rxLenLsb_cases cfg b s with ⟨_, e⟩ | ⟨_, _, e⟩ | ⟨hpos, hle, e⟩ <;> rw [e]
  · exact (hlen _).abandon .lenZero
  · exact (hlen _).abandon .lenOversize
  · have hbounds : 1 ≤ (lengthOf s.lenHi b).toNat ∧ (lengthOf s.lenHi b).toNat ≤ cfg.maxBody + 1 := by
      have : (lengthOf s.lenHi b).toNat ≠ 0 := fun h0 => hpos (BitVec.eq_of_toNat_eq h0)
      omega
    exact { h with
      noneYet := fun _ => h.noneYet (.inr (.inl hps)), lenBounds := fun _ => hbounds, bodyCount := by simp
      fullCount := by simp, escState := by simp, sumSoFar := by simp, verified := by simp, idleZero := nofun }

/-- Where logical bytes have been counted, the parser is in `READ_CKSUM` or `READ_BODY` as the count has reached the
length or not (R192, R193), and the invariant is what it says of the count, the sum and the buffer. -/
theorem inv_of_counted (hps : s.ps = if s.rxCnt = s.frameLen then .readCksum else .readBody)
    (hlen : s.frameLen.toNat ≤ cfg.maxBody + 1) (hpos : 1 ≤ s.rxCnt.toNat) (hle : s.rxCnt.toNat ≤ s.frameLen.toNat)
    (hsum : s.rxSum = receivedSum s) (htx : s.txOpen = false → s.txRem = 0) (hq : s.txq.length ≤ cfg.txqDepth)
    (hwf : s.bodyBuf.wf) (hbound : ∀ c ∈ s.bodyBuf, c.1 < cfg.maxBody) : Inv cfg s := by
  have hlens : 1 ≤ s.frameLen.toNat ∧ s.frameLen.toNat ≤ cfg.maxBody + 1 := ⟨hpos.trans hle, hlen⟩
  by_cases hfull : s.rxCnt = s.frameLen
  · rw [if_pos hfull] at hps
    exact {
      noneYet := by simp [hps], lenBounds := fun _ => hlens, bodyCount := by simp [hps], fullCount := fun _ => hfull
      escState := fun _ => .inr (.inr hps), sumSoFar := fun _ => hsum, verified := by simp [hps]
      idleZero := by simp [hps, ParserState.midFrame]
      txClosed := htx, txqBound := hq, bodyWf := hwf, bodyBound := hbound }
  · have hlt : s.rxCnt.toNat < s.frameLen.toNat :=
      Nat.lt_of_le_of_ne hle fun heq => hfull (BitVec.eq_of_toNat_eq heq)
    rw [if_neg hfull] at hps
    exact {
      noneYet := by simp [hps], lenBounds := fun _ => hlens, bodyCount := fun _ => ⟨hpos, hlt⟩
      fullCount := by simp [hps]
      escState := fun _ => .inr (.inl hps), sumSoFar := fun _ => hsum, verified := by simp [hps]
      idleZero := by simp [hps, ParserState.midFrame]
      txClosed := htx, txqBound := hq, bodyWf := hwf, bodyBound := hbound }

/-- R192: the type byte is the first byte counted and the first one summed. -/
theorem Inv.logicalType (h : Inv cfg s) (hps : s.ps = .readType) (v : Byte) : Inv cfg (logicalType v s) := by
  obtain ⟨_, hzero⟩ := h.noneYet (.inr (.inr hps))
  obtain ⟨hone, hlen⟩ := h.lenBounds (.inl hps)
  have hsum : ckAdd s.rxSum v = receivedSum (Machine.logicalType v s) := by
    simp [receivedSum, Machine.logicalType, hzero, ckAdd]
  have hnext : (Machine.logicalType v s).ps = if 1 = s.frameLen then .readCksum else .readBody := by
    simp [Machine.logicalType, eq_comm]
  exact inv_of_counted hnext hlen (Nat.le_refl 1) hone hsum h.txClosed h.txqBound h.bodyWf h.bodyBound

/-- Counting a body byte does not wrap (R36). -/
theorem Inv.toNat_rxCnt_add_one (h : Inv cfg s) (hps : s.ps = .readBody) :
    (s.rxCnt + 1).toNat = s.rxCnt.toNat + 1 := by
  have hcount := h.bodyCount hps
  bv_omega

/-- The index of a body byte does not wrap (R193). -/
theorem Inv.toNat_rxCnt_sub_one (h : Inv cfg s) (hps : s.ps = .readBody) :
    (s.rxCnt - 1).toNat = s.rxCnt.toNat - 1 := by
  have hcount := h.bodyCount hps
  bv_omega

/-- A body byte is written inside the buffer (R40). -/
theorem Inv.writeIndex_lt (h : Inv cfg s) (hps : s.ps = .readBody) : (s.rxCnt - 1).toNat < cfg.maxBody := by
  have hcount := h.bodyCount hps
  have hlen := h.lenBounds (.inr (.inl hps))
  rw [h.toNat_rxCnt_sub_one hps]
  omega

/-- R60 item 5 at a body byte: the byte is written where the received bytes end, so the sum of the bytes received
takes it as `rx_sum` does. -/
theorem Inv.sum_logicalBody (h : Inv cfg s) (hps : s.ps = .readBody) (v : Byte) :
    ckAdd s.rxSum v = receivedSum (logicalBody v s) := by
  obtain ⟨hone, _⟩ := h.bodyCount hps
  obtain ⟨n, hn⟩ := Nat.exists_eq_add_of_le' hone
  have hindex : (s.rxCnt - 1).toNat = n := by rw [h.toNat_rxCnt_sub_one hps]; omega
  have hcount : (s.rxCnt + 1).toNat - 1 = n + 1 := by rw [h.toNat_rxCnt_add_one hps]; omega
  calc ckAdd s.rxSum v
      = ckSum (s.ftype :: s.bodyBuf.prefixBytes n) + v := by
        rw [h.sumSoFar (.inl hps), receivedSum, hn, Nat.add_sub_cancel, ckAdd]
    _ = ckSum (s.ftype :: (s.bodyBuf.write n v).prefixBytes (n + 1)) := by
        rw [Memory.prefixBytes_write_succ h.bodyWf, ← List.cons_append, ckSum_concat]
    _ = receivedSum (Machine.logicalBody v s) := by
        simp only [receivedSum, Machine.logicalBody, bodyWrite_bodyBuf, bodyWrite_ftype, hindex, hcount]

/-- R193: the byte is stored within the buffer, summed and counted. -/
theorem Inv.logicalBody (h : Inv cfg s) (hps : s.ps = .readBody) (v : Byte) : Inv cfg (logicalBody v s) := by
  obtain ⟨_, hlt⟩ := h.bodyCount hps
  obtain ⟨_, hlen⟩ := h.lenBounds (.inr (.inl hps))
  have hcount := h.toNat_rxCnt_add_one hps
  have hbound : ∀ c ∈ (Machine.logicalBody v s).bodyBuf, c.1 < cfg.maxBody := by
    intro c hc
    rcases Memory.mem_write hc with rfl | hc
    · exact h.writeIndex_lt hps
    · exact h.bodyBound c hc
  exact inv_of_counted rfl hlen (hcount ▸ Nat.le_add_left 1 _) (hcount ▸ hlt) (h.sum_logicalBody hps v) h.txClosed
    h.txqBound (Memory.write_wf h.bodyWf _ v) hbound

/-- R194: a verified frame completes with the length, the count and the sum it was received with. -/
theorem Inv.completeFrame (h : Inv cfg s) (hps : s.ps = .readCksum) (hidle : s.idleCnt = 0)
    (hck : s.rxSum + s.rxCk = 0xFF) (kind : FoKind) (cls fault : Byte) (e : EventName) :
    Inv cfg (completeFrame kind cls fault e s) :=
  { h with
    noneYet := by simp, lenBounds := fun _ => h.lenBounds (.inr (.inr (.inl hps))), bodyCount := by simp
    fullCount := fun _ => h.fullCount (.inl hps), escState := by simp
    sumSoFar := fun _ => h.sumSoFar (.inr (.inl hps)), verified := fun _ => hck, idleZero := fun _ => hidle }

/-- Whatever the variant check answers (R194, R200). -/
theorem Inv.applyVerdict (h : Inv cfg s) (hps : s.ps = .readCksum) (hidle : s.idleCnt = 0)
    (hck : s.rxSum + s.rxCk = 0xFF) (v : Verdict) (cls : Byte) : Inv cfg (applyVerdict v cls s) := by
  rcases applyVerdict_cases v cls s with ⟨_, e⟩ | ⟨c, _, e⟩ | ⟨_, e⟩ <;> rw [e]
  · exact h.abandon .lenMismatch
  · exact h.completeFrame hps hidle hck ..
  · exact h.completeFrame hps hidle hck ..

/-- R194, R195: the frame is dispatched only where its checksum verifies. -/
theorem Inv.logicalCksum (h : Inv cfg s) (hps : s.ps = .readCksum) (hidle : s.idleCnt = 0) {v : Byte}
    (ht : logicalCksum (registryDispatcher cfg) v s = .next t) : Inv cfg t := by
  have stamped : Inv cfg { s with rxCk := v } := { h with verified := by simp [hps] }
  rcases logicalCksum_cases (registryDispatcher cfg) v s with ⟨hck, e⟩ | ⟨_, e⟩ <;> cases e.symm.trans ht
  · exact stamped.applyVerdict hps hidle ((ckVerify_iff _ _).mp hck) ..
  · exact stamped.abandon .cksumFail

/-- A logical byte keeps the invariant in each of the three states that read one (R191). -/
theorem Inv.deliver (h : Inv cfg s) (hidle : s.idleCnt = 0) {v : Byte}
    (ht : deliver (registryDispatcher cfg) v s = .next t) : Inv cfg t := by
  unfold Machine.deliver at ht
  split at ht
  case h_1 hps => cases ht; exact h.logicalType hps v
  case h_2 hps => cases ht; exact h.logicalBody hps v
  case h_3 hps => exact h.logicalCksum hps hidle ht
  all_goals cases ht; exact h

/-- R191: an escape marker waits in a state that may set `rx_esc`; every other byte is delivered. -/
theorem Inv.rxEscaped (h : Inv cfg s) (hps : s.ps = .readType ∨ s.ps = .readBody ∨ s.ps = .readCksum)
    (hidle : s.idleCnt = 0) {b : Byte} (ht : rxEscaped (registryDispatcher cfg) b s = .next t) : Inv cfg t := by
  have paired : Inv cfg { s with rxEsc := false } := { h with escState := nofun }
  rcases rxEscaped_cases (registryDispatcher cfg) b s with ⟨_, _, e⟩ | ⟨v, _, _, e⟩ | ⟨_, _, _, _, e⟩ <;> rw [e] at ht
  · cases ht; exact { h with escState := fun _ => hps }
  · exact paired.deliver hidle ht
  · exact (paired.emit .unescSpecial).deliver hidle ht

/-- Every accepted byte keeps the invariant (R181). -/
theorem Inv.rxByte (h : Inv cfg s) {b : Byte} (ht : rxByte cfg (registryDispatcher cfg) b s = .next t) :
    Inv cfg t := by
  cases hps : s.ps
  case awaitDelim => cases (rxByte_of_awaitDelim cfg _ b hps).symm.trans ht; exact h.clearIdle.rxAwaitDelim b
  case readLenMsb => cases (rxByte_of_readLenMsb cfg _ b hps).symm.trans ht; exact h.clearIdle.rxLenMsb hps b
  case readLenLsb => cases (rxByte_of_readLenLsb cfg _ b hps).symm.trans ht; exact h.clearIdle.rxLenLsb hps b
  case complete => cases (rxByte_of_complete cfg _ b hps).symm.trans ht; exact h
  all_goals
    have hread : s.ps = .readType ∨ s.ps = .readBody ∨ s.ps = .readCksum := by simp [hps]
    rw [rxByte_of_escaped cfg _ b hread] at ht
    exact h.clearIdle.rxEscaped hread rfl ht

/-! ### The commands -/

theorem Inv.registerRead (h : Inv cfg s) (sel : BitVec 4) : Inv cfg (registerRead sel s) := by
  rcases registerRead_cases sel s with ⟨_, e⟩ | ⟨_, e⟩ | ⟨_, v, e⟩ <;> rw [e]
  · exact h.raiseCmdErr
  · exact { h with }
  · exact { h with }

theorem Inv.execPrsCtrl (h : Inv cfg s) {r : Bool} (ht : execPrsCtrl r s = .next t) : Inv cfg t := by
  rcases execPrsCtrl_cases r s with ⟨_, _, e⟩ | ⟨_, e⟩ <;> cases e.symm.trans ht
  · exact { h.abandonQuietly with }
  · exact { h with }

theorem Inv.execTxLenH (h : Inv cfg s) {d : Byte} (ht : execTxLenH d s = .next t) : Inv cfg t := by
  rcases execTxLenH_cases d s with ⟨_, e⟩ | ⟨_, e⟩ <;> cases e.symm.trans ht
  · exact h.raiseCmdErr
  · exact { h with }

/-- `TX_LENL` queues three bytes and opens the frame it owes bytes to (R232). -/
theorem Inv.execTxLenL (h : Inv cfg s) (room : s.txq.length + 3 ≤ cfg.txqDepth) {d : Byte}
    (ht : execTxLenL d s = .next t) : Inv cfg t := by
  rcases execTxLenL_cases d s with ⟨_, e⟩ | ⟨_, _, e⟩ <;> cases e.symm.trans ht
  · exact h.raiseCmdErr
  · exact { h with txClosed := nofun, txqBound := by simpa using room }

/-- A byte's encoding fits where three entries are free (R52, R161). -/
theorem length_append_encodeByte_le {q : List Byte} {n : Nat} (room : q.length + 3 ≤ n) (b : Byte) :
    (q ++ encodeByte b).length ≤ n := by
  have := length_encodeByte_le b
  rw [List.length_append]
  omega

/-- `TX_BYTE` leaves the frame open (R233). -/
theorem Inv.execTxByte (h : Inv cfg s) (room : s.txq.length + 3 ≤ cfg.txqDepth) {d : Byte}
    (ht : execTxByte d s = .next t) : Inv cfg t := by
  rcases execTxByte_cases d s with ⟨_, e⟩ | ⟨hopen, _, e⟩ <;> cases e.symm.trans ht
  · exact h.raiseCmdErr
  · exact { h with txClosed := by simp [hopen], txqBound := length_append_encodeByte_le room d }

/-- `TX_END` closes the frame only where it owes no byte (R234). -/
theorem Inv.execTxEnd (h : Inv cfg s) (room : s.txq.length + 3 ≤ cfg.txqDepth)
    (ht : execTxEnd s = .next t) : Inv cfg t := by
  rcases execTxEnd_cases s with ⟨_, e⟩ | ⟨_, hrem, e⟩ <;> cases e.symm.trans ht
  · exact h.raiseCmdErr
  · exact { h with txClosed := fun _ => hrem, txqBound := length_append_encodeByte_le room _ }

/-- A command keeps the invariant where the queue has the three free entries `cmd_ready` asks for (R51, R52, R87). -/
theorem Inv.runCommand (h : Inv cfg s) (room : s.txq.length + 3 ≤ cfg.txqDepth) {w : Word16}
    (ht : runCommand w s = .next t) : Inv cfg t := by
  unfold Machine.runCommand at ht
  generalize hi : decodeCommand w = i at ht
  cases i with
  | nop => cases ht; exact h.done
  | ckClear => cases ht; exact { h with }
  | ckAdd d => cases ht; exact { h with }
  | ckValue => cases ht; exact { h with }
  | ckVerify d => cases ht; exact { h with }
  | escEnc d => cases ht; split <;> exact h.respond ..
  | escDec w => cases (execEscDec_eq w s).symm.trans ht; exact { h with }
  | escClr => cases ht; exact { h with }
  | txLenH d => exact h.execTxLenH ht
  | txLenL d => exact h.execTxLenL room ht
  | txByte d => exact h.execTxByte room ht
  | txEnd => exact h.execTxEnd room ht
  | txAbort => cases ht; exact { h with txClosed := fun _ => rfl }
  | prsCtrl r => exact h.execPrsCtrl ht
  | tmoSet i d => cases ht; exact { h with }
  | regRd sel => cases ht; exact h.registerRead sel
  | regRdReserved sel => cases ht; exact h.registerRead sel
  | _ => exact absurd (decodeCommand_cases w) (by simp [hi])

/-! ### The queue under the events before the command -/

/-- A byte between frames does not touch the queue (R183). -/
@[simp] theorem rxAwaitDelim_txq (b : Byte) (s : State) : (rxAwaitDelim b s).txq = s.txq := by
  unfold rxAwaitDelim
  split <;> rfl

/-- The second length byte does not touch the queue (R185). -/
@[simp] theorem rxLenLsb_txq (b : Byte) (s : State) : (rxLenLsb cfg b s).txq = s.txq := by
  rcases rxLenLsb_cases cfg b s with ⟨_, e⟩ | ⟨_, _, e⟩ | ⟨_, _, e⟩ <;> simp [e]

/-- No verdict of the variant check touches the queue (R194). -/
@[simp] theorem applyVerdict_txq (v : Verdict) (cls : Byte) (s : State) : (applyVerdict v cls s).txq = s.txq := by
  cases v <;> rfl

/-- A logical byte does not touch the queue (R191). -/
theorem deliver_txq {v : Byte} (ht : deliver (registryDispatcher cfg) v s = .next t) : t.txq = s.txq := by
  unfold deliver at ht
  split at ht
  case h_2 => cases ht; rfl
  case h_3 =>
    rcases logicalCksum_cases (registryDispatcher cfg) v s with ⟨_, e⟩ | ⟨_, e⟩ <;> cases e.symm.trans ht
    · exact applyVerdict_txq ..
    · rfl
  all_goals cases ht; rfl

/-- A wire byte through the decoder does not touch the queue (R191). -/
theorem rxEscaped_txq {b : Byte} (ht : rxEscaped (registryDispatcher cfg) b s = .next t) : t.txq = s.txq := by
  rcases rxEscaped_cases (registryDispatcher cfg) b s with ⟨_, _, e⟩ | ⟨_, _, _, e⟩ | ⟨_, _, _, _, e⟩ <;>
    rw [e] at ht
  · cases ht; rfl
  · exact (deliver_txq ht :)
  · exact (deliver_txq ht :)

/-- No accepted byte touches the queue (R52, R97). -/
theorem rxByte_txq {b : Byte} (ht : rxByte cfg (registryDispatcher cfg) b s = .next t) : t.txq = s.txq := by
  cases hps : s.ps
  case awaitDelim => cases (rxByte_of_awaitDelim cfg _ b hps).symm.trans ht; exact rxAwaitDelim_txq ..
  case readLenMsb => cases (rxByte_of_readLenMsb cfg _ b hps).symm.trans ht; rfl
  case readLenLsb => cases (rxByte_of_readLenLsb cfg _ b hps).symm.trans ht; exact rxLenLsb_txq ..
  case complete => cases (rxByte_of_complete cfg _ b hps).symm.trans ht; rfl
  all_goals
    rw [rxByte_of_escaped cfg _ b (by simp [hps])] at ht
    exact (rxEscaped_txq ht :)

/-- A `Tick` does not touch the queue (R196). -/
@[simp] theorem tick_txq (s : State) : (tick s).txq = s.txq := by
  rcases tick_cases s with ⟨_, e⟩ | ⟨_, _, _, e⟩ | ⟨_, _, _, _, e⟩ <;> simp [e]

/-! ### The clock edge -/

/-- Every event but a command keeps the invariant where it is enabled, and takes no free entry of the queue. -/
theorem Inv.applyEvent (h : Inv cfg s) {e : Event} (hcmd : ∀ w, e ≠ .cmd w) (henabled : eventEnabled e s = true)
    (ht : applyEvent cfg (registryDispatcher cfg) e s = .next t) : Inv cfg t ∧ t.txq.length ≤ s.txq.length := by
  cases e with
  | txPop => cases ht; exact ⟨h.txPop, by simp⟩
  | foAccept => cases ht; exact ⟨h.foAccept ((foValid_iff s).mp henabled), Nat.le_refl _⟩
  | rxByte b => exact ⟨h.rxByte ht, (rxByte_txq ht).symm ▸ Nat.le_refl _⟩
  | tick => cases ht; exact ⟨h.tick, by simp⟩
  | cmd w => exact absurd rfl (hcmd w)
  | reset => cases ht; exact ⟨inv_resetEdge cfg s, Nat.zero_le _⟩

/-- Events without a command keep the invariant where they are enabled one after the other. -/
theorem Inv.applyEvents {es : List Event} (h : Inv cfg s) (hcmd : ∀ e ∈ es, ∀ w, e ≠ .cmd w)
    (henabled : enabledAlong cfg (registryDispatcher cfg) es s)
    (ht : applyEvents cfg (registryDispatcher cfg) es s = .next t) :
    Inv cfg t ∧ t.txq.length ≤ s.txq.length := by
  induction es generalizing s with
  | nil => cases ht; exact ⟨h, Nat.le_refl _⟩
  | cons e es ih =>
    obtain ⟨hhead, htail⟩ := List.forall_mem_cons.mp hcmd
    obtain ⟨u, hu, hrest⟩ := andThen_eq_next.mp ht
    obtain ⟨hinv, hle⟩ := h.applyEvent hhead henabled.1 hu
    obtain ⟨hinv', hle'⟩ := ih hinv htail (henabled.2 u hu) hrest
    exact ⟨hinv', hle'.trans hle⟩

/-- The first events of an enabled list are an enabled list. -/
theorem enabledAlong_of_append {disp : Dispatcher} {es es' : List Event}
    (h : enabledAlong cfg disp (es ++ es') s) : enabledAlong cfg disp es s := by
  induction es generalizing s with
  | nil => exact enabledAlong_nil s
  | cons e es ih => exact ⟨h.1, fun u hu => ih (h.2 u hu)⟩

/-- The events of an edge that come before its command (R88). -/
def portEvents (inp : PortInputs) (s : State) : List Event :=
  (if txValid s && inp.txReady then [.txPop] else [])
    ++ (if foValid s && inp.foReady then [.foAccept] else [])
    ++ (if inp.rxValid && rxReady s then [.rxByte inp.rxData] else [.tick])

theorem cycleEvents_of_not_rst (cfg : Config) {inp : PortInputs} (hrst : ¬ inp.rst = true) (s : State) :
    cycleEvents cfg inp s =
      portEvents inp s ++ (if inp.cmdValid && cmdReady cfg s then [.cmd inp.cmdWord] else []) :=
  if_neg hrst

theorem ne_cmd_of_mem_portEvents {inp : PortInputs} {e : Event} (he : e ∈ portEvents inp s) (w : Word16) :
    e ≠ .cmd w := by
  rintro rfl
  simp only [portEvents, List.mem_append] at he
  rcases he with (he | he) | he <;> split at he <;> simp at he

/-- Every clock edge keeps the invariant: an edge takes a command only where three entries of the queue are free at its
start, and the events before the command take none of them (R87, R88). -/
theorem Inv.cycle (h : Inv cfg s) {inp : PortInputs}
    (ht : cycle cfg (registryDispatcher cfg) inp s = .next t) : Inv cfg t := by
  by_cases hrst : inp.rst = true
  · cases (cycle_of_rst cfg _ hrst s).symm.trans ht
    exact inv_resetEdge cfg _
  · have henabled := enabledAlong_cycleEvents (cfg := cfg) (disp := registryDispatcher cfg) inp s
    rw [cycleEvents_of_not_rst cfg hrst] at henabled
    rw [Machine.cycle, cycleEvents_of_not_rst cfg hrst, applyEvents_append] at ht
    obtain ⟨u, hu, hlast⟩ := andThen_eq_next.mp ht
    obtain ⟨hinv, hle⟩ := h.clearPulses.applyEvents (fun _ he => ne_cmd_of_mem_portEvents he)
      (enabledAlong_of_append henabled) hu
    split at hlast
    · next hready =>
      have room := (cmdReady_iff cfg s).mp (Bool.and_elim_right hready)
      obtain ⟨v, hv, hnil⟩ := andThen_eq_next.mp hlast
      cases hnil
      exact hinv.runCommand ((Nat.add_le_add_right hle 3).trans room) hv
    · cases hlast
      exact hinv

end

/-- Settles O45: `inv_resetOf` at the parameters of the machine. -/
theorem resetMeetsTheInvariant : Obligations.ResetMeetsTheInvariant := inv_resetOf Config.impl

/-- Settles O46: a step is a clock edge, and every clock edge keeps the invariant (`Inv.cycle`). -/
theorem stepKeepsTheInvariant : Obligations.StepKeepsTheInvariant := by
  intro s t hinv ht
  rw [step, runTag_eq] at ht
  exact hinv.takeInputs.cycle ht

end Sys2Proof.Machine
end

section
/-! The registers at reset, the `STATUS` word and the idle count (O1, O10, O27; 10_state.md R31, R33, R56 and
R60 item 7). -/

namespace Sys2Proof.Machine

/-- Settles O1: each clause reads one field of `State.resetOf`. -/
theorem resetGivesEveryRegisterItsResetValue : Obligations.ResetGivesEveryRegisterItsResetValue :=
  ⟨rfl, rfl, rfl, rfl, rfl, rfl, rfl, rfl, rfl, rfl, rfl, rfl, rfl, rfl, rfl, rfl, rfl, rfl, rfl, rfl, rfl, rfl⟩

/-- Bits 2:0 of the `STATUS` word (R56). -/
theorem statusWord_ps (s : State) : (statusWord s).extractLsb' 0 3 = s.ps.code := BitVec.extractLsb'_append_eq_right

/-- The five flags of the `STATUS` word (R56). -/
theorem statusWord_flags (s : State) :
    (statusWord s).getLsbD 3 = s.rxEsc ∧ (statusWord s).getLsbD 4 = s.run ∧ (statusWord s).getLsbD 5 = s.txOpen ∧
    (statusWord s).getLsbD 6 = s.hdEsc ∧ (statusWord s).getLsbD 7 = s.cmdErr := by
  simp only [statusWord, BitVec.getLsbD_append]
  simp

/-- The reserved byte of the `STATUS` word lies above its six fields (R56). -/
theorem statusWord_reserved (s : State) : (statusWord s).extractLsb' 8 8 = 0x00#8 := by
  unfold statusWord
  iterate 6 refine (BitVec.extractLsb'_append_eq_of_le (by decide)).trans ?_
  rfl

/-- Settles O10: the codes by definition, the word field by field. -/
theorem statusWordFields : Obligations.StatusWordFields := by
  refine ⟨⟨rfl, rfl, rfl, rfl, rfl, rfl, rfl⟩, fun s => ?_⟩
  obtain ⟨hesc, hrun, htx, hhd, herr⟩ := statusWord_flags s
  exact ⟨statusWord_ps s, hesc, hrun, htx, hhd, herr, statusWord_reserved s⟩

/-- Settles O27: of the three things a `Tick` can do, only counting below `tmo` leaves a running parser mid-frame. -/
theorem countBelowTimeoutAfterTick : Obligations.CountBelowTimeoutAfterTick := by
  intro s hrun hmid htmo
  rcases tick_cases s with ⟨hstill, e⟩ | ⟨_, _, hbelow, e⟩ | ⟨_, _, _, _, e⟩ <;> rw [e] at hmid htmo ⊢
  · rcases hstill with hstop | hout
    · exact absurd (hrun.symm.trans hstop) (by decide)
    · exact absurd (hmid.symm.trans hout) (by decide)
  · exact hbelow.resolve_left htmo
  · exact absurd hmid (by simp [ParserState.midFrame])

end Sys2Proof.Machine
end

section
/-! What an accepted command can do (O15; 20_memory.md R97, 10_state.md R53, R54, R58): each unit's registers are
written by that unit's commands only, and every command responds. -/

namespace Sys2Proof.Machine

/-- What a command with the given opcode can do to the state (R106): which registers it may write, and what it leaves.
Every case writes the response. -/
inductive CommandEffect (op : Nat) (s : State) : State → Prop where
  /-- `NOP`, `CK_VALUE`, `CK_VERIFY`, `ESC_ENC` only answer. -/
  | answer (hop : op = 0 ∨ 3 ≤ op ∧ op ≤ 5) (r : Response) : CommandEffect op s { s with rsp := some r }
  /-- `CK_CLEAR`, `CK_ADD` (R53). -/
  | hostSum (hop : op = 1 ∨ op = 2) (r : Response) (sum : Byte) :
    CommandEffect op s { s with hcSum := sum, rsp := some r }
  /-- `ESC_DEC`, `ESC_CLR` (R54). -/
  | hostDecoder (hop : op = 6 ∨ op = 7) (r : Response) (pending : Bool) :
    CommandEffect op s { s with hdEsc := pending, rsp := some r }
  /-- The TX commands where they are allowed (R231 to R236). -/
  | composer (hop : 8 ≤ op ∧ op ≤ 12) (r : Response) (isOpen : Bool) (hi sum : Byte) (rem : Word16) (q : List Byte) :
    CommandEffect op s
      { s with txOpen := isOpen, txLenHi := hi, txRem := rem, txSum := sum, txq := q, rsp := some r }
  /-- `PRS_CTRL` but for a stop mid-frame (R252). -/
  | control (hop : op = 13) (r : Response) (run : Bool) : CommandEffect op s { s with run := run, rsp := some r }
  /-- `PRS_CTRL` that stops the parser mid-frame (R252). -/
  | stopMidFrame (hop : op = 13) (hmid : s.ps.midFrame = true) (r : Response) (run : Bool) :
    CommandEffect op s { abandonQuietly s with run := run, rsp := some r }
  /-- `TMO_SET` (R253). -/
  | timeout (hop : op = 14) (r : Response) (tmo : Word32) : CommandEffect op s { s with tmo := tmo, rsp := some r }
  /-- `REG_RD` with a defined selector, which may clear `cmd_err` (R254). -/
  | registerRead (hop : op = 15) (r : Response) (err : Bool) :
    CommandEffect op s { s with cmdErr := err, rsp := some r }
  /-- A command error (R276). -/
  | error (hop : 8 ≤ op ∧ op ≤ 11 ∨ op = 15) : CommandEffect op s (raiseCmdErr s)

theorem commandEffect_registerRead {op : Nat} (hop : op = 15) (sel : BitVec 4) (s : State) :
    CommandEffect op s (registerRead sel s) := by
  rcases registerRead_cases sel s with ⟨_, e⟩ | ⟨_, e⟩ | ⟨_, v, e⟩ <;> rw [e]
  · exact .error (.inr hop)
  · exact .registerRead hop _ false
  · exact .registerRead hop _ s.cmdErr

/-- Every accepted command has the effect of its opcode's row. -/
theorem runCommand_effect {w : Word16} {s t : State} (ht : runCommand w s = .next t) :
    CommandEffect (fieldOp w).toNat s t := by
  unfold runCommand at ht
  rcases decodeCommand_cases w with ⟨hop, e⟩ | ⟨hop, e⟩ | ⟨hop, e⟩ | ⟨hop, e⟩ | ⟨hop, e⟩ | ⟨hop, e⟩ | ⟨hop, e⟩ |
    ⟨hop, e⟩ | ⟨hop, e⟩ | ⟨hop, e⟩ | ⟨hop, e⟩ | ⟨hop, e⟩ | ⟨hop, e⟩ | ⟨hop, e⟩ | ⟨hop, e⟩ | ⟨hop, _, e⟩ |
    ⟨hop, _, e⟩ <;> rw [e] at ht <;> rw [hop]
  · cases ht; exact .answer (by decide) _
  · cases ht; exact .hostSum (by decide) _ _
  · cases ht; exact .hostSum (by decide) _ _
  · cases ht; exact .answer (by decide) _
  · cases ht; exact .answer (by decide) _
  · cases ht; split <;> exact .answer (by decide) _
  · cases (execEscDec_eq _ s).symm.trans ht; exact .hostDecoder (by decide) _ _
  · cases ht; exact .hostDecoder (by decide) _ _
  · rcases execTxLenH_cases (fieldD w) s with ⟨_, e⟩ | ⟨_, e⟩ <;> cases e.symm.trans ht
    exacts [.error (by decide), .composer (by decide) ..]
  · rcases execTxLenL_cases (fieldD w) s with ⟨_, e⟩ | ⟨_, _, e⟩ <;> cases e.symm.trans ht
    exacts [.error (by decide), .composer (by decide) ..]
  · rcases execTxByte_cases (fieldD w) s with ⟨_, e⟩ | ⟨_, _, e⟩ <;> cases e.symm.trans ht
    exacts [.error (by decide), .composer (by decide) ..]
  · rcases execTxEnd_cases s with ⟨_, e⟩ | ⟨_, _, e⟩ <;> cases e.symm.trans ht
    exacts [.error (by decide), .composer (by decide) ..]
  · cases ht; exact .composer (by decide) ..
  · rcases execPrsCtrl_cases ((fieldA w).getLsbD 0) s with ⟨_, hmid, e⟩ | ⟨_, e⟩ <;> cases e.symm.trans ht
    · exact .stopMidFrame rfl hmid _ _
    · exact .control rfl _ _
  · cases ht; exact .timeout rfl _ _
  · cases ht; exact commandEffect_registerRead rfl _ s
  · cases ht; exact commandEffect_registerRead rfl _ s

/-- Settles O15: each row's effect writes no field but its own unit's, and its opcode excludes the clause that keeps
that unit. -/
theorem commandsLeaveOtherUnitsAlone : Obligations.CommandsLeaveOtherUnitsAlone := by
  intro w s t ht
  have effect : CommandEffect (w.extractLsb' 12 4).toNat s t := runCommand_effect ht
  generalize (w.extractLsb' 12 4).toNat = op at *
  cases effect with
  | answer => simp
  | hostSum hop =>
    have own : op ≠ 1 → op = 2 := by omega
    simp +contextual [own]
  | hostDecoder hop =>
    have own : op ≠ 6 → op = 7 := by omega
    simp +contextual [own]
  | composer hop =>
    have own : ¬ (op < 8 ∨ 12 < op) := by omega
    simp [own]
  | control hop => simp [hop]
  | stopMidFrame hop => simp [hop]
  | timeout hop => simp [hop]
  | registerRead => simp
  | error => simp

end Sys2Proof.Machine
end

section
/-! The parser and the other units (O32, and the registers of O31; 20_memory.md R84, R97): an event of the parser does
the same whatever the other units' registers hold, and so leaves them as they are. -/

namespace Sys2Proof.Machine

/-- The parser's registers and the event word of `s`, and everything else of `o`: `run` and `tmo`, which the parser
reads and never writes, the other units' registers, the response and the coming inputs. -/
def withOtherUnits (o s : State) : State :=
  { s with
    run := o.run, tmo := o.tmo, cmdErr := o.cmdErr, txOpen := o.txOpen, txLenHi := o.txLenHi, txRem := o.txRem,
    txSum := o.txSum, txq := o.txq, hcSum := o.hcSum, hdEsc := o.hdEsc, rsp := o.rsp, inputs := o.inputs }

section
variable (cfg : Config) (o s : State)

@[simp] theorem withOtherUnits_self : withOtherUnits s s = s := rfl
@[simp] theorem withOtherUnits_ps : (withOtherUnits o s).ps = s.ps := rfl
@[simp] theorem withOtherUnits_rxEsc : (withOtherUnits o s).rxEsc = s.rxEsc := rfl
@[simp] theorem withOtherUnits_rxSum : (withOtherUnits o s).rxSum = s.rxSum := rfl

/-- `f` commutes with replacing the other units' registers at `s`: it neither reads nor writes them. -/
def IgnoresOthersAt (f : State → Result) : Prop :=
  f (withOtherUnits o s) = andThen (f s) fun t => .next (withOtherUnits o t)

theorem rxAwaitDelim_withOtherUnits (b : Byte) :
    rxAwaitDelim b (withOtherUnits o s) = withOtherUnits o (rxAwaitDelim b s) := by
  unfold rxAwaitDelim
  split <;> rfl

theorem rxLenLsb_withOtherUnits (b : Byte) :
    rxLenLsb cfg b (withOtherUnits o s) = withOtherUnits o (rxLenLsb cfg b s) := by
  simp only [rxLenLsb, apply_ite (withOtherUnits o)]
  rfl

theorem applyVerdict_withOtherUnits (v : Verdict) (cls : Byte) :
    applyVerdict v cls (withOtherUnits o s) = withOtherUnits o (applyVerdict v cls s) := by
  cases v <;> rfl

theorem logicalCksum_ignoresOthers (v : Byte) :
    IgnoresOthersAt o s (logicalCksum (registryDispatcher cfg) v) := by
  unfold IgnoresOthersAt logicalCksum
  rw [withOtherUnits_rxSum]
  split
  · exact congrArg Host.Outcome.next (applyVerdict_withOtherUnits o { s with rxCk := v } _ _)
  · rfl

theorem deliver_ignoresOthers (v : Byte) : IgnoresOthersAt o s (deliver (registryDispatcher cfg) v) := by
  unfold IgnoresOthersAt deliver
  rw [withOtherUnits_ps]
  split
  case h_3 => exact logicalCksum_ignoresOthers cfg o s v
  all_goals rfl

theorem rxEscaped_ignoresOthers (b : Byte) : IgnoresOthersAt o s (rxEscaped (registryDispatcher cfg) b) := by
  unfold IgnoresOthersAt rxEscaped
  rw [withOtherUnits_rxEsc]
  rcases decodeStep s.rxEsc b with ⟨p, _ | v, flag⟩ <;> cases flag
  · rfl
  · rfl
  · exact deliver_ignoresOthers cfg o { s with rxEsc := p } v
  · exact deliver_ignoresOthers cfg o (emit .unescSpecial { s with rxEsc := p }) v

/-- An accepted byte reads and writes the parser's registers alone (R97). -/
theorem rxByte_ignoresOthers (b : Byte) : IgnoresOthersAt o s (rxByte cfg (registryDispatcher cfg) b) := by
  unfold IgnoresOthersAt rxByte
  rw [withOtherUnits_ps]
  split
  case h_1 => exact congrArg Host.Outcome.next (rxAwaitDelim_withOtherUnits o { s with idleCnt := 0 } b)
  case h_2 => rfl
  case h_3 => exact congrArg Host.Outcome.next (rxLenLsb_withOtherUnits cfg o { s with idleCnt := 0 } b)
  case h_7 => rfl
  all_goals exact rxEscaped_ignoresOthers cfg o { s with idleCnt := 0 } b

/-- A `Tick` reads `run` and `tmo` of the registers that are not the parser's, and writes none (R196). -/
theorem tick_withOtherUnits (hrun : o.run = s.run) (htmo : o.tmo = s.tmo) :
    tick (withOtherUnits o s) = withOtherUnits o (tick s) := by
  cases o
  cases hrun
  cases htmo
  simp only [tick, apply_ite (withOtherUnits _)]
  rfl

end

/-- The parser's events: a cycle without a byte, the acceptance of a record, an accepted byte (R180). -/
def Event.ofParser (e : Event) : Prop := e = .tick ∨ e = .foAccept ∨ ∃ b, e = .rxByte b

section
variable {cfg : Config} {e : Event} {s t : State}

/-- A parser's event with other values in the registers of the other units does the same to the parser's (R97). -/
theorem applyEvent_withOtherUnits (he : e.ofParser) {o : State} (hrun : o.run = s.run) (htmo : o.tmo = s.tmo)
    (ht : applyEvent cfg (registryDispatcher cfg) e s = .next t) :
    applyEvent cfg (registryDispatcher cfg) e (withOtherUnits o s) = .next (withOtherUnits o t) := by
  rcases he with rfl | rfl | ⟨b, rfl⟩
  · cases ht
    exact congrArg Host.Outcome.next (tick_withOtherUnits o s hrun htmo)
  · cases ht
    rfl
  · have h := rxByte_ignoresOthers cfg o s b
    rwa [IgnoresOthersAt, show rxByte cfg _ b s = .next t from ht] at h

/-- A parser's event leaves every register that is not the parser's (R97): it would take the values they have. -/
theorem eq_withOtherUnits_of_applyEvent (he : e.ofParser)
    (ht : applyEvent cfg (registryDispatcher cfg) e s = .next t) : t = withOtherUnits s t := by
  have h := applyEvent_withOtherUnits he rfl rfl ht
  rw [withOtherUnits_self, ht] at h
  exact Host.Outcome.next.inj h

end

/-- Settles O32: the state with the other values is `withOtherUnits` of itself, and `run`, `tmo` and the inputs, which
the statement does not replace, are left as they are. -/
theorem parserStepIgnoresOtherUnits : Obligations.ParserStepIgnoresOtherUnits := by
  intro cfg e s t txOpen hdEsc cmdErr txLenHi txSum hcSum txRem txq rsp he ht
  have frame := eq_withOtherUnits_of_applyEvent he ht
  have h := applyEvent_withOtherUnits he (s := s) (o := { s with
    txOpen := txOpen, hdEsc := hdEsc, cmdErr := cmdErr, txLenHi := txLenHi, txSum := txSum, hcSum := hcSum,
    txRem := txRem, txq := txq, rsp := rsp }) rfl rfl ht
  rw [frame]
  exact h

end Sys2Proof.Machine
end

section
/-! The body buffer under the parser's events (O31; 20_memory.md R84, 42_parser.md R193): only the wire byte that
completes a logical body byte writes it. -/

namespace Sys2Proof.Machine

section
variable {cfg : Config} {e : Event} {s t : State} {b v : Byte}

/-! ### What writes the body buffer -/

@[simp] theorem rxAwaitDelim_bodyBuf (b : Byte) (s : State) : (rxAwaitDelim b s).bodyBuf = s.bodyBuf := by
  unfold rxAwaitDelim
  split <;> rfl

@[simp] theorem rxLenLsb_bodyBuf (b : Byte) (s : State) : (rxLenLsb cfg b s).bodyBuf = s.bodyBuf := by
  rcases rxLenLsb_cases cfg b s with ⟨_, e⟩ | ⟨_, _, e⟩ | ⟨_, _, e⟩ <;> simp [e]

@[simp] theorem applyVerdict_bodyBuf (v : Verdict) (cls : Byte) (s : State) :
    (applyVerdict v cls s).bodyBuf = s.bodyBuf := by
  cases v <;> rfl

@[simp] theorem tick_bodyBuf (s : State) : (tick s).bodyBuf = s.bodyBuf := by
  rcases tick_cases s with ⟨_, e⟩ | ⟨_, _, _, e⟩ | ⟨_, _, _, _, e⟩ <;> simp [e]

/-- A logical byte outside `READ_BODY` does not write the buffer (R192, R194). -/
theorem deliver_bodyBuf_of_ne_readBody (ht : deliver (registryDispatcher cfg) v s = .next t)
    (hps : s.ps ≠ .readBody) : t.bodyBuf = s.bodyBuf := by
  unfold deliver at ht
  split at ht
  case h_2 h => exact absurd h hps
  case h_3 =>
    rcases logicalCksum_cases (registryDispatcher cfg) v s with ⟨_, e⟩ | ⟨_, e⟩ <;> cases e.symm.trans ht
    · exact applyVerdict_bodyBuf ..
    · rfl
  all_goals cases ht; rfl

/-- A logical byte in `READ_BODY` is stored at index `rx_cnt - 1` (R193). -/
theorem deliver_bodyBuf_of_readBody (ht : deliver (registryDispatcher cfg) v s = .next t) (hps : s.ps = .readBody) :
    t.bodyBuf = s.bodyBuf.write (s.rxCnt - 1).toNat v := by
  simp only [deliver, hps] at ht
  cases ht
  rfl

/-- A wire byte that completes no logical body byte does not write the buffer. -/
theorem rxByte_bodyBuf_of_no_bodyByte (hno : ¬ (s.ps = .readBody ∧ ∃ v, (decodeStep s.rxEsc b).out = some v))
    (ht : rxByte cfg (registryDispatcher cfg) b s = .next t) : t.bodyBuf = s.bodyBuf := by
  have notBody {v : Byte} (hv : (decodeStep s.rxEsc b).out = some v) : s.ps ≠ .readBody := fun h => hno ⟨h, v, hv⟩
  cases hps : s.ps
  case awaitDelim => cases (rxByte_of_awaitDelim cfg _ b hps).symm.trans ht; exact rxAwaitDelim_bodyBuf ..
  case readLenMsb => cases (rxByte_of_readLenMsb cfg _ b hps).symm.trans ht; rfl
  case readLenLsb => cases (rxByte_of_readLenLsb cfg _ b hps).symm.trans ht; exact rxLenLsb_bodyBuf ..
  case complete => cases (rxByte_of_complete cfg _ b hps).symm.trans ht; rfl
  all_goals
    rw [rxByte_of_escaped cfg _ b (by simp [hps])] at ht
    rcases rxEscaped_cases (registryDispatcher cfg) b { s with idleCnt := 0 } with
      ⟨_, _, e⟩ | ⟨v, hv, _, e⟩ | ⟨_, _, hv, _, e⟩ <;> rw [e] at ht
    · cases ht; rfl
    · exact (deliver_bodyBuf_of_ne_readBody ht (notBody hv) :)
    · exact (deliver_bodyBuf_of_ne_readBody ht (notBody hv) :)

/-- The wire byte that completes a logical body byte stores it (R191, R193). -/
theorem rxByte_bodyBuf_of_bodyByte (hps : s.ps = .readBody) (hv : (decodeStep s.rxEsc b).out = some v)
    (ht : rxByte cfg (registryDispatcher cfg) b s = .next t) :
    t.bodyBuf = s.bodyBuf.write (s.rxCnt - 1).toNat v := by
  rw [rxByte_of_escaped cfg _ b (.inr (.inl hps))] at ht
  rcases rxEscaped_cases (registryDispatcher cfg) b { s with idleCnt := 0 } with
    ⟨hesc, hb, _⟩ | ⟨v', hv', _, e⟩ | ⟨_, _, hv', _, e⟩
  · exact absurd (hv.symm.trans ((decodeStep_out_none_iff _ _).mpr ⟨hesc, hb⟩)) (by simp)
  all_goals
    cases hv.symm.trans hv'
    rw [e] at ht
    exact (deliver_bodyBuf_of_readBody ht hps :)

/-- A parser's event other than a logical body byte does not write the buffer. -/
theorem applyEvent_bodyBuf_of_no_bodyByte (he : e.ofParser)
    (hno : ¬ (s.ps = .readBody ∧ ∃ b v, e = .rxByte b ∧ (decodeStep s.rxEsc b).out = some v))
    (ht : applyEvent cfg (registryDispatcher cfg) e s = .next t) : t.bodyBuf = s.bodyBuf := by
  rcases he with rfl | rfl | ⟨b, rfl⟩
  · cases ht; exact tick_bodyBuf s
  · cases ht; rfl
  · exact rxByte_bodyBuf_of_no_bodyByte (fun ⟨hps, v, hv⟩ => hno ⟨hps, b, v, rfl, hv⟩) ht

end

/-- Settles O31: the other units by `eq_withOtherUnits_of_applyEvent`, the buffer by the byte that may write it. -/
theorem parserEventsLeaveOtherUnitsAlone : Obligations.ParserEventsLeaveOtherUnitsAlone := by
  intro cfg e s t he hwf ht
  have kept {α : Type} (register : State → α) : register t = register (withOtherUnits s t) :=
    congrArg register (eq_withOtherUnits_of_applyEvent he ht)
  refine ⟨kept State.run, kept State.tmo, kept State.cmdErr, kept State.txOpen, kept State.txLenHi, kept State.txRem,
    kept State.txSum, kept State.txq, kept State.hcSum, kept State.hdEsc, kept State.rsp, kept State.inputs,
    fun a ha => ?_, ?_⟩
  · by_cases hbyte : s.ps = .readBody ∧ ∃ b v, e = .rxByte b ∧ (decodeStep s.rxEsc b).out = some v
    · obtain ⟨hps, b, v, rfl, hv⟩ := hbyte
      have hne : a ≠ (s.rxCnt - 1).toNat := fun h => ha ⟨hps, ⟨b, v, rfl, hv⟩, h⟩
      rw [rxByte_bodyBuf_of_bodyByte hps hv ht, Memory.read_write hwf, if_neg hne]
    · rw [applyEvent_bodyBuf_of_no_bodyByte he hbyte ht]
  · rintro hps b v rfl hv
    rw [rxByte_bodyBuf_of_bodyByte hps hv ht, Memory.read_write hwf, if_pos rfl]

end Sys2Proof.Machine
end

section
/-! The clock edge by what it takes (O35, O37, O40, O41; 20_memory.md R86 to R89, 44_control.md R250): with a command,
without one, and without what is offered while its ready signal is 0. -/

namespace Sys2Proof.Machine

section
variable {cfg : Config} {disp : Dispatcher} {inp : PortInputs} {s : State}

theorem applyEvents_singleton (e : Event) (s : State) : applyEvents cfg disp [e] s = applyEvent cfg disp e s := by
  rw [applyEvents_cons]
  cases applyEvent cfg disp e s <;> rfl

/-- An edge that takes a command is its other events and then the command (R88). -/
theorem cycle_of_command (hrst : inp.rst = false) (hvalid : inp.cmdValid = true) (hready : cmdReady cfg s = true) :
    cycle cfg disp inp s =
      andThen (applyEvents cfg disp (portEvents inp s) (clearPulses s)) (runCommand inp.cmdWord) := by
  have command : applyEvents cfg disp [.cmd inp.cmdWord] = runCommand inp.cmdWord :=
    funext (applyEvents_singleton (.cmd inp.cmdWord))
  rw [cycle, cycleEvents_of_not_rst cfg (by simp [hrst]), hvalid, hready, applyEvents_append]
  exact congrArg (andThen _) command

/-- An edge that takes no command is its other events (R88). -/
theorem cycle_of_no_command (hrst : inp.rst = false) (hno : ¬ (inp.cmdValid = true ∧ cmdReady cfg s = true)) :
    cycle cfg disp inp s = applyEvents cfg disp (portEvents inp s) (clearPulses s) := by
  rw [cycle, cycleEvents_of_not_rst cfg (by simp [hrst]), if_neg (by simpa using hno), List.append_nil]

/-- An edge that takes a command is the same edge without it and then the command. -/
theorem cycle_eq_andThen_command (hrst : inp.rst = false) (hvalid : inp.cmdValid = true)
    (hready : cmdReady cfg s = true) :
    cycle cfg disp inp s = andThen (cycle cfg disp { inp with cmdValid := false } s) (runCommand inp.cmdWord) := by
  have without : cycle cfg disp { inp with cmdValid := false } s =
      applyEvents cfg disp (portEvents inp s) (clearPulses s) := cycle_of_no_command hrst (by simp)
  rw [without, cycle_of_command hrst hvalid hready]

/-- A command offered with fewer than three free entries is not taken (R87, R311). -/
theorem cycle_of_not_cmdReady (h : cmdReady cfg s = false) :
    cycle cfg disp inp s = cycle cfg disp { inp with cmdValid := false } s := by
  have : cycleEvents cfg inp s = cycleEvents cfg { inp with cmdValid := false } s := by simp [cycleEvents, h]
  rw [cycle, this, cycle]

/-- A byte offered to a stopped parser, or to one that holds a record, is not taken (R86, R317). -/
theorem cycle_of_not_rxReady (h : rxReady s = false) :
    cycle cfg disp inp s = cycle cfg disp { inp with rxValid := false } s := by
  have : cycleEvents cfg inp s = cycleEvents cfg { inp with rxValid := false } s := by simp [cycleEvents, h]
  rw [cycle, this, cycle]

end

/-- Settles O35: the edge without the command is the other events of the edge with it. -/
theorem stepRunsTheOfferedCommand : Obligations.StepRunsTheOfferedCommand :=
  fun s => ⟨rfl, fun hrst hvalid hready => cycle_eq_andThen_command (s := takeInputs s) hrst hvalid hready⟩

/-- Settles O40: each output signal is its handshake's condition on the registers, forced to 0 in a reset cycle only. -/
theorem handshakeSignals : Obligations.HandshakeSignals := by
  refine fun cfg inp s => ⟨rfl, fun hrst => ⟨?_, ?_, ?_, ?_, fun hps => ?_, fun hps => ?_⟩⟩ <;>
    simp only [portOutputs, hrst, Bool.not_false, Bool.true_and]
  · exact rxReady_iff s
  · exact foValid_iff s
  · exact txValid_iff s
  · exact cmdReady_iff cfg s
  · exact if_pos ((foValid_iff s).mpr hps)
  · exact if_neg (mt (foValid_iff s).mp hps)

/-- Settles O41: the two ready signals are 0 under the two conditions. -/
theorem whatIsNotReadyIsNotTaken : Obligations.WhatIsNotReadyIsNotTaken := by
  refine fun inp s => ⟨fun hfull => cycle_of_not_cmdReady ?_, fun hstalled => cycle_of_not_rxReady ?_⟩
  · simpa [cmdReady] using hfull
  · rcases hstalled with h | h <;> simp [rxReady, h]

/-! ### The placed table word -/

/-- A byte that completes a verified checksum runs the dispatcher on the state stamped with it (R194). -/
theorem rxByte_of_verified (cfg : Config) (disp : Dispatcher) {b v : Byte} {flag : Bool} {s : State}
    (hps : s.ps = .readCksum) (hd : decodeStep s.rxEsc b = ⟨false, some v, flag⟩) (hck : ckVerify s.rxSum v = true) :
    rxByte cfg disp b s = disp s.ftype { s with
      rxEsc := false, idleCnt := 0, rxCk := v,
      ev := if flag = true then s.ev ||| EventName.unescSpecial.bit else s.ev } := by
  rw [rxByte_of_escaped cfg disp b (.inr (.inr hps))]
  cases flag <;> simp [rxEscaped, deliver, logicalCksum, emit, hd, hps, hck]

/-- The wire byte that `placeTag` offers, under the pending bit it sets, is the checksum. -/
theorem decodeStep_placed (v : Byte) :
    decodeStep (isSpecial v) (if isSpecial v then v ^^^ escXor else v) = ⟨false, some v, false⟩ := by
  cases h : isSpecial v
  · have hne : v ≠ escByte := fun he => by simp [he, isSpecial] at h
    simp [decodeStep, h, hne]
  · simp [decodeStep]

/-- From reset, `placeCommand` only offers the command: the queue is empty already. -/
theorem takeInputs_placeCommand_reset (w : Word16) : takeInputs (placeCommand w State.reset) = State.reset := by
  have hq : (if cmdReady Config.impl State.reset then State.reset.txq else []) = [] := ite_self _
  simp only [placeCommand, hq]
  rfl

/-- The step of a placed command is `exec` of it on the reset state: an idle parser's `Tick` changes nothing. -/
theorem step_placeCommand_reset (w : Word16) :
    step (placeCommand w State.reset) = exec (decodeCommand w) State.reset := by
  change cycle Config.impl runTag (offerCommand w) (takeInputs (placeCommand w State.reset)) = _
  rw [takeInputs_placeCommand_reset]
  exact cycle_of_command rfl rfl ((cmdReady_iff _ _).mpr Config.impl_valid.txqDepth_ge)

/-- A step at which a byte is offered and nothing else happens is the byte, where the parser is ready. -/
theorem step_of_offerByte {s : State} {b : Byte} (hinp : nextInputs s = offerByte b) (hrun : s.run = true)
    (hps : s.ps ≠ .complete) : step s = rxByte Config.impl runTag b (clearPulses (takeInputs s)) := by
  have events : portEvents (offerByte b) (takeInputs s) = [.rxByte b] := by
    simp [portEvents, offerByte, PortInputs.idle, rxReady, hrun, hps]
  rw [step, hinp, cycle_of_no_command rfl (by simp [offerByte, PortInputs.idle]), events, applyEvents_singleton]
  rfl

/-- The step of a placed tag is `exec` of it: the offered byte verifies the checksum of the tag alone. -/
theorem step_placeTag_reset (t : Byte) :
    step (placeTag t State.reset) = exec (decodeTag t) { State.reset with
      run := true, ps := .readCksum, frameLen := 1, rxCnt := 1, ftype := t, rxSum := t, rxCk := ckValue t } := by
  have hck : ckVerify t (ckValue t) = true := (ckVerify_iff _ _).mpr (add_ckValue t)
  rw [step_of_offerByte (s := placeTag t State.reset) rfl rfl (by simp [placeTag])]
  exact rxByte_of_verified Config.impl runTag (s := clearPulses (takeInputs (placeTag t State.reset)))
    rfl (decodeStep_placed (ckValue t)) hck

/-- Settles O37: the step of the placed word, by its kind. -/
theorem placedWordRunsFirst : Obligations.PlacedWordRunsFirst := by
  refine ⟨fun w hw => ⟨decodeCommand (BitVec.ofNat 16 w), ?_, step_placeCommand_reset _⟩,
    fun w hw => ⟨decodeTag (BitVec.ofNat 8 w), ?_, step_placeTag_reset _⟩⟩ <;> exact if_pos hw

end Sys2Proof.Machine
end

section
/-! What the events of an edge keep (O42, O43; 20_memory.md R84, R90, R91, 70_reset_and_hazards.md R310, R315): no
response but a command's, and a record that is not accepted. -/

namespace Sys2Proof.Machine

section
variable {cfg : Config} {disp : Dispatcher} {s t : State}

/-- What each event of a list keeps, the list keeps. -/
theorem applyEvents_keeps {P : State → Prop} {es : List Event}
    (keeps : ∀ e ∈ es, ∀ u v, P u → applyEvent cfg disp e u = .next v → P v)
    (hs : P s) (ht : applyEvents cfg disp es s = .next t) : P t := by
  induction es generalizing s with
  | nil => cases ht; exact hs
  | cons e es ih =>
    obtain ⟨hhead, htail⟩ := List.forall_mem_cons.mp keeps
    obtain ⟨u, hu, hrest⟩ := andThen_eq_next.mp ht
    exact ih htail (hhead s u hs hu) hrest

/-- A list of events answers a next state where the dispatcher does (R281, R282). -/
theorem applyEvents_next (hd : ∀ t s, ∃ s', disp t s = .next s') (cfg : Config) (es : List Event) (s : State) :
    ∃ t, applyEvents cfg disp es s = .next t := by
  induction es generalizing s with
  | nil => exact ⟨s, rfl⟩
  | cons e es ih =>
    obtain ⟨u, hu⟩ := applyEvent_next hd cfg e s
    obtain ⟨t, ht⟩ := ih u
    exact ⟨t, andThen_eq_next.mpr ⟨u, hu, ht⟩⟩

/-! ### The response -/

/-- Every command responds (R107). -/
theorem isSome_rsp_of_runCommand {w : Word16} (ht : runCommand w s = .next t) : t.rsp.isSome = true := by
  cases runCommand_effect ht <;> rfl

/-- No event but a command responds (R90). -/
theorem rsp_none_of_applyEvent {e : Event} (hcmd : ∀ w, e ≠ .cmd w) (hs : s.rsp = none)
    (ht : applyEvent cfg (registryDispatcher cfg) e s = .next t) : t.rsp = none := by
  have parser (he : e.ofParser) : t.rsp = none :=
    (congrArg State.rsp (eq_withOtherUnits_of_applyEvent he ht)).trans hs
  cases e with
  | txPop => cases ht; exact hs
  | foAccept => exact parser (.inr (.inl rfl))
  | rxByte b => exact parser (.inr (.inr ⟨b, rfl⟩))
  | tick => exact parser (.inl rfl)
  | cmd w => exact absurd rfl (hcmd w)
  | reset => cases ht; rfl

/-- The state after an edge holds a response exactly when the edge took a command (R90, R310). -/
theorem isSome_rsp_of_cycle {inp : PortInputs} (ht : cycle cfg (registryDispatcher cfg) inp s = .next t) :
    t.rsp.isSome = true ↔ inp.rst = false ∧ inp.cmdValid = true ∧ cmdReady cfg s = true := by
  cases hrst : inp.rst with
  | true =>
    cases (cycle_of_rst cfg _ hrst s).symm.trans ht
    simp
  | false =>
    by_cases hcmd : inp.cmdValid = true ∧ cmdReady cfg s = true
    · rw [cycle_of_command hrst hcmd.1 hcmd.2] at ht
      obtain ⟨u, _, hu⟩ := andThen_eq_next.mp ht
      simpa [isSome_rsp_of_runCommand hu] using hcmd
    · rw [cycle_of_no_command hrst hcmd] at ht
      have hnone : t.rsp = none := applyEvents_keeps (P := fun u => u.rsp = none)
        (fun e he u v hu hv => rsp_none_of_applyEvent (ne_cmd_of_mem_portEvents he) hu hv) rfl ht
      simpa [hnone] using hcmd

/-! ### The record -/

/-- The record, its body, the count and the parser's reports are those of the state before. -/
structure KeepsRecord (s t : State) : Prop where
  ps : t.ps = s.ps
  record : frameRecord t = frameRecord s
  bodyBuf : t.bodyBuf = s.bodyBuf
  idleCnt : t.idleCnt = s.idleCnt
  /-- No event but `CMD_ERR` is reported (R272). -/
  ev : t.ev &&& 0x0FF#9 = s.ev &&& 0x0FF#9

theorem KeepsRecord.refl (s : State) : KeepsRecord s s := ⟨rfl, rfl, rfl, rfl, rfl⟩

theorem KeepsRecord.trans {u : State} (h : KeepsRecord s t) (h' : KeepsRecord t u) : KeepsRecord s u :=
  ⟨h'.ps.trans h.ps, h'.record.trans h.record, h'.bodyBuf.trans h.bodyBuf, h'.idleCnt.trans h.idleCnt, h'.ev.trans h.ev⟩

/-- The body read port shows the same bytes of a kept record (R207). -/
theorem KeepsRecord.foRdData_eq (h : KeepsRecord s t) (addr : Word16) : foRdData addr t = foRdData addr s := by
  have hlen : t.frameLen = s.frameLen := congrArg FrameRecord.len h.record
  simp only [foRdData, bodyRead, h.ps, hlen, h.bodyBuf]

/-- A command error reports no parser event (R272, R276). -/
theorem raiseCmdErr_parserEvents (s : State) : (raiseCmdErr s).ev &&& 0x0FF#9 = s.ev &&& 0x0FF#9 := by
  have disjoint : EventName.cmdErr.bit &&& 0x0FF#9 = 0#9 := by decide
  rw [raiseCmdErr_ev, BitVec.and_or_distrib_right, disjoint, BitVec.or_zero]

/-- A command keeps the record, even one that stops the parser (R252, R315). -/
theorem keepsRecord_of_runCommand (hps : s.ps = .complete) {w : Word16} (ht : runCommand w s = .next t) :
    KeepsRecord s t := by
  cases runCommand_effect ht with
  | stopMidFrame _ hmid => simp [hps, ParserState.midFrame] at hmid
  | error => exact ⟨rfl, rfl, rfl, rfl, raiseCmdErr_parserEvents s⟩
  | _ => exact ⟨rfl, rfl, rfl, rfl, rfl⟩

/-- In `COMPLETE` every event but the record's acceptance and a reset keeps the record. -/
theorem keepsRecord_of_applyEvent (hps : s.ps = .complete) {e : Event} (hfo : e ≠ .foAccept) (hreset : e ≠ .reset)
    (ht : applyEvent cfg disp e s = .next t) : KeepsRecord s t := by
  cases e with
  | txPop => cases ht; exact ⟨rfl, rfl, rfl, rfl, rfl⟩
  | foAccept => exact absurd rfl hfo
  | rxByte b => cases (rxByte_of_complete cfg disp b hps).symm.trans ht; exact .refl s
  | tick =>
    have still : tick s = s := by simp [tick, hps, ParserState.midFrame]
    cases ht
    rw [still]
    exact .refl s
  | cmd w => exact keepsRecord_of_runCommand hps ht
  | reset => exact absurd rfl hreset

/-- An edge with neither a reset nor `fo_ready` keeps the record, up to the pulses it begins by ending (R84, R91). -/
theorem keepsRecord_of_cycle (hps : s.ps = .complete) {inp : PortInputs} (hrst : inp.rst = false)
    (hfo : inp.foReady = false) (ht : cycle cfg disp inp s = .next t) : KeepsRecord (clearPulses s) t := by
  have other {e : Event} (he : e ∈ cycleEvents cfg inp s) : e ≠ .foAccept ∧ e ≠ .reset := by
    constructor <;> rintro rfl <;> simp [cycleEvents, hrst, hfo, hps] at he
  exact applyEvents_keeps (fun e he u v hu hv => hu.trans
    (keepsRecord_of_applyEvent (hu.ps.trans hps) (other he).1 (other he).2 hv)) (.refl _) ht

end

/-- Settles O42: an edge without `fo_ready` keeps the record, and reports no more than the cleared event word. -/
theorem recordIsHeldUntilAccepted : Obligations.RecordIsHeldUntilAccepted := by
  intro s t hps hrst hfo ht
  have kept : KeepsRecord (clearPulses (takeInputs s)) t := keepsRecord_of_cycle hps hrst hfo ht
  exact ⟨kept.ps.trans hps, kept.record, kept.idleCnt, kept.ev.trans BitVec.zero_and, kept.foRdData_eq⟩

/-- Settles O43: an edge begins by clearing the pulses, which no handshake reads; the response is
`isSome_rsp_of_cycle`. -/
theorem pulsesComeFromTheirEdge : Obligations.PulsesComeFromTheirEdge := by
  intro s r e
  obtain ⟨t, ht⟩ : ∃ t, step s = .next t := applyEvents_next runTag_next ..
  refine ⟨rfl, t, ht, ?_⟩
  rw [step, runTag_eq] at ht
  exact (isSome_rsp_of_cycle ht).trans (by rw [cmdReady_iff, takeInputs_txq])

end Sys2Proof.Machine
end

section
/-! Parsing a stream in parts (O59; 20_memory.md R85, 42_parser.md R204): a byte gives the same whatever follows it. -/

namespace Sys2Proof.Machine

theorem ParseResult.after_after (records records' : List FrameRecord) (events events' : List (BitVec 9))
    (r : ParseResult) :
    (r.after records' events').after records events = r.after (records ++ records') (events ++ events') := by
  simp [ParseResult.after]

/-- A byte of a stream gives records and events and leaves a state, from which the rest is parsed. -/
theorem parseFrom_cons (cfg : Config) (b : Byte) (s : State) :
    ∃ records events next, ∀ bs, parseFrom cfg (registryDispatcher cfg) (b :: bs) s =
      (parseFrom cfg (registryDispatcher cfg) bs next).after records events := by
  obtain ⟨t, ht⟩ := rxByte_next (registryDispatcher_next cfg) cfg b (clearPulses s)
  by_cases hps : t.ps = .complete
  · exact ⟨[frameRecord t], [t.ev], foAccept t, fun bs => by simp only [parseFrom, ht, if_pos hps]⟩
  · by_cases hev : t.ev = 0
    · exact ⟨[], [], t, fun bs => by simp only [parseFrom, ht, if_neg hps, if_pos hev]; rfl⟩
    · exact ⟨[], [t.ev], t, fun bs => by simp only [parseFrom, ht, if_neg hps, if_neg hev]⟩

/-- Settles O59: by induction on the first part, a byte at a time. -/
theorem parseDoesNotDependOnChunks : Obligations.ParseDoesNotDependOnChunks := by
  intro cfg bs bs' s
  induction bs generalizing s with
  | nil => rfl
  | cons b bs ih =>
    obtain ⟨records, events, next, hcons⟩ := parseFrom_cons cfg b s
    simp only [List.cons_append, hcons, ih next, ParseResult.after_after]
    rfl

end Sys2Proof.Machine
end

section
/-! The decoder and the encoder (O48, O49, O50, O51; 30_encoding.md R104 to R106, R108, R110 to R112, R115). -/

namespace Sys2Proof

/-- Settles O48: an instruction without an operand is one word; an operand in `D` or `A` is read back from its field;
the range of a selector and the tags of the generic row are the instruction's well-formedness. -/
theorem decodeReadsEncodeBack : Obligations.DecodeReadsEncodeBack := by
  intro i hi
  cases i with
  | ckAdd d | ckVerify d | escEnc d | escDec d | txLenH d | txLenL d | txByte d =>
    simp [encode, decode, decodeCommand]
  | prsCtrl r => cases r <;> rfl
  | tmoSet lane d =>
    have hlane : (0#2 ++ lane).extractLsb' 0 2 = lane := BitVec.extractLsb'_append_eq_right
    simp [encode, decode, decodeCommand, hlane]
  | regRd sel =>
    have hsel : sel.toNat < 8 := of_decide_eq_true hi
    simp [encode, decode, decodeCommand, hsel]
  | regRdReserved sel =>
    have hsel : ¬ sel.toNat < 8 := Nat.not_lt.mpr (of_decide_eq_true hi)
    simp [encode, decode, decodeCommand, hsel]
  | frameGeneric tag => exact decodeTag_generic tag (beq_iff_eq.mp hi)
  | _ => rfl

/-- The selector of a `REG_RD` word is in its row's range, and no other row restricts its operands (R108). -/
theorem decodeCommand_wellFormed (w : Word16) : (decodeCommand w).WellFormed := by
  unfold decodeCommand
  split
  case h_16 =>
    split
    · next hsel => exact decide_eq_true hsel
    · next hsel => exact decide_eq_true (Nat.le_of_not_lt hsel)
  all_goals rfl

/-- The instruction of a command word is encoded as a command word with the same opcode (R106, R115). -/
theorem encode_decodeCommand (w : Word16) :
    ∃ a d, encode (decodeCommand w) = .command (commandWord (fieldOp w) a d) := by
  have hop : fieldOp w = BitVec.ofNat 4 (fieldOp w).toNat := by simp
  rw [hop]
  rcases decodeCommand_cases w with ⟨hk, e⟩ | ⟨hk, e⟩ | ⟨hk, e⟩ | ⟨hk, e⟩ | ⟨hk, e⟩ | ⟨hk, e⟩ | ⟨hk, e⟩ | ⟨hk, e⟩ |
    ⟨hk, e⟩ | ⟨hk, e⟩ | ⟨hk, e⟩ | ⟨hk, e⟩ | ⟨hk, e⟩ | ⟨hk, e⟩ | ⟨hk, e⟩ | ⟨hk, _, e⟩ | ⟨hk, _, e⟩ <;>
  · rw [hk, e]
    exact ⟨_, _, rfl⟩

/-- The encoder gives a type tag back from its row (R111, R112). -/
theorem encode_decodeTag : ∀ t : Byte, encode (decodeTag t) = .typeTag t := by decide

/-- Settles O49: the word of the same opcode is the encoder's, which decodes back as the instruction is well-formed. -/
theorem everyUnitDecodes : Obligations.EveryUnitDecodes := by
  refine ⟨fun w => ⟨decodeCommand_wellFormed w, ?_⟩, fun t => ⟨decodeTag_wellFormed t, encode_decodeTag t⟩⟩
  obtain ⟨a, d, henc⟩ := encode_decodeCommand w
  refine ⟨_, henc, fieldOp_commandWord (fieldOp w) a d, ?_⟩
  rw [← henc]
  exact decodeReadsEncodeBack _ (decodeCommand_wellFormed w)

/-- The sixteen opcodes by the fields they use (R105, R106): none, `D` alone, and three that use `A`. -/
theorem opcode_uses : ∀ op : BitVec 4,
    (op = 0 ∨ op = 1 ∨ op = 3 ∨ op = 7 ∨ op = 11 ∨ op = 12) ∨
    (op = 2 ∨ op = 4 ∨ op = 5 ∨ op = 6 ∨ op = 8 ∨ op = 9 ∨ op = 10) ∨ op = 13 ∨ op = 14 ∨ op = 15 := by
  decide

/-- Settles O50: each row reads from the word only the fields the hypotheses make equal. -/
theorem unusedBitsAreIgnored : Obligations.UnusedBitsAreIgnored := by
  intro op a a' d d' usesD hd hrun hlane hsel
  rw [decodeCommand_append, decodeCommand_append]
  simp only [decodeCommand, fieldOp_commandWord, fieldA_commandWord, fieldD_commandWord]
  rcases opcode_uses op with noField | onlyD | rfl | rfl | rfl
  · rcases noField with rfl | rfl | rfl | rfl | rfl | rfl <;> rfl
  · rcases onlyD with rfl | rfl | rfl | rfl | rfl | rfl | rfl <;> cases hd (by decide) <;> rfl
  · exact congrArg Instr.prsCtrl (hrun rfl)
  · exact congrArg₂ Instr.tmoSet (hlane rfl) (hd (by decide))
  · cases hsel rfl
    rfl

/-- Settles O51: each word is evaluated. -/
theorem writtenWordsDecode : Obligations.WrittenWordsDecode := by
  unfold Obligations.WrittenWordsDecode
  decide

end Sys2Proof
end

section
/-! The response of every command (O14, O12; 30_encoding.md R107, R108, 60_exceptions.md R276): a command raises the
command error exactly in the states its row names, and otherwise answers a record without an error. -/

namespace Sys2Proof.Machine

/-- The states in which an instruction raises the command error (R276). -/
def ErrorCause (i : Instr) (s : State) : Prop :=
  match i with
  | .txLenH _ => s.txOpen = true
  | .txLenL d => s.txOpen = true ∨ s.txLenHi = 0 ∧ d = 0
  | .txByte _ => s.txOpen = false ∨ s.txRem = 0
  | .txEnd => s.txOpen = false ∨ s.txRem ≠ 0
  | .regRd sel => 8 ≤ sel.toNat
  | .regRdReserved sel => 8 ≤ sel.toNat
  | _ => False

/-- The state after a command that is no error, by the data bytes of its response (R107). -/
inductive Answered : State → Prop where
  | noByte (s : State) : Answered (done s)
  | oneByte (b : Byte) (s : State) : Answered (respond false 1 b 0x00 s)
  | twoBytes (b0 b1 : Byte) (s : State) : Answered (respond false 2 b0 b1 s)

theorem Answered.rsp {t : State} (h : Answered t) : ∃ n b0 b1, t.rsp = some ⟨false, n, b0, b1⟩ ∧
    n.toNat ≤ 2 ∧ (n.toNat ≤ 1 → b1 = 0) ∧ (n = 0 → b0 = 0) := by
  cases h with
  | noByte s => exact ⟨0, 0, 0, rfl, by decide⟩
  | oneByte b s => exact ⟨1, b, 0, rfl, by decide, fun _ => rfl, fun h => absurd h (by decide)⟩
  | twoBytes b0 b1 s =>
    exact ⟨2, b0, b1, rfl, by decide, fun h => absurd h (by decide), fun h => absurd h (by decide)⟩

theorem registerRead_answer (sel : BitVec 4) (s : State) :
    8 ≤ sel.toNat ∧ registerRead sel s = raiseCmdErr s ∨ ¬ 8 ≤ sel.toNat ∧ Answered (registerRead sel s) := by
  rcases registerRead_cases sel s with h | ⟨hsel, e⟩ | ⟨hsel, v, e⟩
  · exact .inl h
  · exact .inr ⟨by omega, e ▸ .twoBytes ..⟩
  · exact .inr ⟨by omega, e ▸ .twoBytes ..⟩

/-- What the instruction of a command word can do. -/
theorem exec_answer {i : Instr} {w : Word16} (hi : encode i = .command w) (s : State) :
    ErrorCause i s ∧ exec i s = .next (raiseCmdErr s) ∨
    ¬ ErrorCause i s ∧ ∃ t, exec i s = .next t ∧ Answered t := by
  cases i with
  | nop | ckClear | ckAdd | escClr | txAbort | prsCtrl | tmoSet => exact .inr ⟨id, _, rfl, .noByte _⟩
  | ckValue | ckVerify => exact .inr ⟨id, _, rfl, .oneByte ..⟩
  | escEnc d =>
    refine .inr ⟨id, _, rfl, ?_⟩
    split
    · exact .twoBytes ..
    · exact .oneByte ..
  | escDec w =>
    refine .inr ⟨id, _, rfl, ?_⟩
    split
    · exact .oneByte ..
    · exact .noByte _
  | txLenH d =>
    rcases execTxLenH_cases d s with h | ⟨hclosed, e⟩
    · exact .inl h
    · exact .inr ⟨by simp [ErrorCause, hclosed], _, e, .noByte _⟩
  | txLenL d =>
    rcases execTxLenL_cases d s with h | ⟨hclosed, hlen, e⟩
    · exact .inl h
    · have hno : ¬ ErrorCause (.txLenL d) s := by
        simpa [ErrorCause, hclosed] using mt (lengthOf_eq_zero ..).mpr hlen
      exact .inr ⟨hno, _, e, .noByte _⟩
  | txByte d =>
    rcases execTxByte_cases d s with h | ⟨hopen, hrem, e⟩
    · exact .inl h
    · exact .inr ⟨by simpa [ErrorCause, hopen] using hrem, _, e, .noByte _⟩
  | txEnd =>
    rcases execTxEnd_cases s with h | ⟨hopen, hrem, e⟩
    · exact .inl h
    · exact .inr ⟨by simp [ErrorCause, hopen, hrem], _, e, .noByte _⟩
  | regRd sel | regRdReserved sel =>
    rcases registerRead_answer sel s with ⟨hsel, e⟩ | ⟨hsel, h⟩
    · exact .inl ⟨hsel, congrArg _ e⟩
    · exact .inr ⟨hsel, _, rfl, h⟩
  | _ => cases hi

theorem runCommand_answer (w : Word16) (s : State) :
    ErrorCause (decodeCommand w) s ∧ runCommand w s = .next (raiseCmdErr s) ∨
    ¬ ErrorCause (decodeCommand w) s ∧ ∃ t, runCommand w s = .next t ∧ Answered t := by
  obtain ⟨_, _, henc⟩ := encode_decodeCommand w
  exact exec_answer henc s

/-- Settles O14: the error's record is fixed, and every other answer's record is `Answered.rsp`. -/
theorem everyCommandResponds : Obligations.EveryCommandResponds := by
  intro w s
  rcases runCommand_answer w s with ⟨_, e⟩ | ⟨_, t, e, ht⟩
  · exact ⟨_, ⟨true, 0, 0, 0⟩, e, rfl, by decide⟩
  · obtain ⟨n, b0, b1, hrsp, hn, hb1, hb0⟩ := ht.rsp
    exact ⟨t, _, e, hrsp, hn, hb1, hb0, fun herr => absurd herr Bool.false_ne_true⟩

/-- A command is an error exactly in the states its row names (R276). -/
theorem runCommand_eq_raiseCmdErr_iff (w : Word16) (s : State) :
    runCommand w s = .next (raiseCmdErr s) ↔ ErrorCause (decodeCommand w) s := by
  rcases runCommand_answer w s with ⟨hcause, e⟩ | ⟨hno, t, e, ht⟩
  · exact iff_of_true e hcause
  · refine iff_of_false (fun herr => ?_) hno
    obtain ⟨n, b0, b1, hrsp, _⟩ := ht.rsp
    cases e.symm.trans herr
    cases hrsp

/-- The composer closed, with a length byte waiting that is not zero: `TX_LENH` and `TX_LENL` are allowed (R231, R232). -/
def composerClosed : State := { State.reset with txLenHi := 1 }

/-- The composer open and owing the given number of bytes (R233, R234). -/
def composerOwing (n : Word16) : State := { State.reset with txOpen := true, txRem := n }

/-- Only a register read is an error in every state: each composer command is allowed with the composer closed, one byte
short or complete. -/
theorem exists_regRd_of_errorCause {i : Instr} (h : ∀ s, ErrorCause i s) :
    ∃ sel : BitVec 4, 8 ≤ sel.toNat ∧ (i = .regRd sel ∨ i = .regRdReserved sel) := by
  have hclosed := h composerClosed
  have hshort := h (composerOwing 1)
  have hfull := h (composerOwing 0)
  cases i with
  | regRd sel => exact ⟨sel, hclosed, .inl rfl⟩
  | regRdReserved sel => exact ⟨sel, hclosed, .inr rfl⟩
  | txLenH d => cases hclosed
  | txLenL d => simp [ErrorCause, composerClosed, State.reset, State.resetOf] at hclosed
  | txByte d => simp [ErrorCause, composerOwing] at hshort
  | txEnd => simp [ErrorCause, composerOwing] at hfull
  | _ => exact hclosed.elim

/-- The words of the reserved selectors (R108). -/
theorem decodeCommand_eq_regRdReserved_iff (w : Word16) (sel : BitVec 4) :
    decodeCommand w = .regRdReserved sel ↔ (fieldOp w).toNat = 15 ∧ 8 ≤ (fieldA w).toNat ∧ fieldA w = sel := by
  have hlt := (fieldOp w).isLt
  unfold decodeCommand
  split
  case h_16 =>
    have hop : (fieldOp w).toNat = 15 := by
      simp only [imp_false] at *
      omega
    split
    · next hsel => simp [hsel]
    · next hsel => simp [hop, Nat.le_of_not_lt hsel]
  all_goals simp [*]

/-- Settles O12: a word that is an error in every state is a register read, whose selector a well-formed row has in
`8 .. 15` only where it is reserved. -/
theorem reservedSelectorIsCommandError : Obligations.ReservedSelectorIsCommandError := by
  intro w
  constructor
  · intro h
    obtain ⟨sel, hsel, e | e⟩ := exists_regRd_of_errorCause fun s => (runCommand_eq_raiseCmdErr_iff w s).mp (h s)
    · have hwf : sel.toNat < 8 := of_decide_eq_true (e ▸ decodeCommand_wellFormed w : (Instr.regRd sel).WellFormed)
      omega
    · obtain ⟨hop, hA, _⟩ := (decodeCommand_eq_regRdReserved_iff w sel).mp e
      exact ⟨hop, hA⟩
  · rintro ⟨hop, hA⟩ s
    refine (runCommand_eq_raiseCmdErr_iff w s).mpr ?_
    rw [(decodeCommand_eq_regRdReserved_iff w _).mpr ⟨hop, hA, rfl⟩]
    exact hA

end Sys2Proof.Machine
end

section
/-! The pseudo-instructions (O56; 30_encoding.md R116): the four lanes of the timeout written one after another, and
bytes folded into the host's sum. -/

namespace Sys2Proof.Machine

theorem getLsbD_ofNat_ff (m : Nat) : (0xFF#32).getLsbD m = decide (m < 8) := by
  have hmask : 0xFF#32 = (BitVec.allOnes 8).setWidth 32 := rfl
  rw [hmask, BitVec.getLsbD_setWidth, BitVec.getLsbD_allOnes, Bool.and_eq_right_iff_imp]
  simp only [decide_eq_true_eq]
  omega

/-- A byte lane written from a value holds that value's bits, and the other bits stay (R253). -/
theorem getLsbD_setByteLane_byteLane (i : BitVec 2) (v old : Word32) {k : Nat} (hk : k < 32) :
    (setByteLane i (byteLane i v) old).getLsbD k = if k / 8 = i.toNat then v.getLsbD k else old.getLsbD k := by
  simp only [setByteLane, byteLane, BitVec.getLsbD_or, BitVec.getLsbD_and, BitVec.getLsbD_not, BitVec.getLsbD_shiftLeft,
    BitVec.getLsbD_setWidth, BitVec.getLsbD_extractLsb', getLsbD_ofNat_ff]
  split
  · next hin =>
    have hle : 8 * i.toNat ≤ k := by omega
    have hlt : k - 8 * i.toNat < 8 := by omega
    simp [hk, hlt, Nat.not_lt.mpr hle, Nat.add_sub_of_le hle, Nat.lt_of_le_of_lt (Nat.sub_le ..) hk]
  · next hout =>
    have hlane : k < 8 * i.toNat ∨ ¬ k - 8 * i.toNat < 8 := by omega
    rcases hlane with h | h <;> simp [hk, h]

/-- The four lanes of a value written in turn over an old one, as `TMO_SET32` does it (R116). -/
def setByteLanes (v old : Word32) : Word32 :=
  setByteLane 3 (byteLane 3 v) (setByteLane 2 (byteLane 2 v) (setByteLane 1 (byteLane 1 v)
    (setByteLane 0 (byteLane 0 v) old)))

theorem setByteLanes_eq (v old : Word32) : setByteLanes v old = v := by
  refine BitVec.eq_of_getLsbD_eq fun k hk => ?_
  have hlane : k / 8 = 0 ∨ k / 8 = 1 ∨ k / 8 = 2 ∨ k / 8 = 3 := by omega
  simp only [setByteLanes, getLsbD_setByteLane_byteLane _ _ _ hk]
  rcases hlane with h | h | h | h <;> simp [h]

/-- `CK_ADD` commands and a `CK_VALUE`, from any sum (R142, R143). -/
theorem execAll_ckAdds_ckValue (bs : List Byte) (s : State) :
    execAll (bs.map .ckAdd ++ [.ckValue]) s =
      .next (respond false 1 (ckValue (bs.foldl ckAdd s.hcSum)) 0x00 { s with hcSum := bs.foldl ckAdd s.hcSum }) := by
  induction bs generalizing s with
  | nil => rfl
  | cons b bs ih => exact ih (done { s with hcSum := ckAdd s.hcSum b })

/-- The state a `TMO_SET` leaves: another timeout, and the response (R253). -/
def withTimeout (tmo : Word32) (s : State) : State := { s with tmo := tmo, rsp := some ⟨false, 0, 0, 0⟩ }

@[simp] theorem withTimeout_tmo (tmo : Word32) (s : State) : (withTimeout tmo s).tmo = tmo := rfl

@[simp] theorem withTimeout_withTimeout (tmo tmo' : Word32) (s : State) :
    withTimeout tmo (withTimeout tmo' s) = withTimeout tmo s := rfl

theorem exec_tmoSet (i : BitVec 2) (d : Byte) (s : State) :
    exec (.tmoSet i d) s = .next (withTimeout (setByteLane i d s.tmo) s) := rfl

theorem execAll_pseudoTmoSet32 (v : Word32) (s : State) :
    execAll (pseudoTmoSet32 v) s = .next (withTimeout (setByteLanes v s.tmo) s) := by
  simp [pseudoTmoSet32, execAll, andThen, exec_tmoSet, setByteLanes]

/-- Settles O56: the timeout is written lane by lane, the bytes are summed from the cleared sum. -/
theorem pseudoInstructionResults : Obligations.PseudoInstructionResults := by
  refine ⟨fun s v => ?_, fun s bs => execAll_ckAdds_ckValue bs (done { s with hcSum := ckClear })⟩
  rw [execAll_pseudoTmoSet32, setByteLanes_eq, withTimeout]

end Sys2Proof.Machine
end

section
/-! The dispatch of type tags to their classes (O16, O17, O18; 30_encoding.md R111, R112, 42_parser.md R194, R200). -/

namespace Sys2Proof.Machine

/-- A body the variant check accepts completes the frame (R194). -/
theorem dispatchFrame_of_ok {cfg : Config} {tag cls : Byte} {s : State}
    (h : cfg.variantCheck cls tag (frameBody s) = .ok) :
    dispatchFrame cfg tag cls s = completeFrame (if cls = 0 then .generic else .typed) cls 0x00 .frameOk s := by
  rw [dispatchFrame, h, applyVerdict]

/-- Settles O16: a row's tag decodes to the row and has its class, which is not 0, so that the dispatch of the tag is
the row's meaning and an accepted body completes it as `TYPED`. -/
theorem registryRowsDispatchToTheirClass : Obligations.RegistryRowsDispatchToTheirClass := by
  intro row hrow
  obtain ⟨hdec, hreg, hcls⟩ :
      decodeTag row.2.1 = row.1 ∧ Config.impl.registry row.2.1 = row.2.2 ∧ row.2.2 ≠ 0 := by
    revert row
    decide
  refine ⟨hdec, hreg, fun s => ?_⟩
  rw [← hdec, exec_decodeTag, hreg, dispatchFrame]
  cases Config.impl.variantCheck row.2.2 row.2.1 (frameBody s) with
  | lenMismatch => rfl
  | fault c => rfl
  | ok =>
    rw [applyVerdict, if_neg hcls]
    rfl

/-- Settles O17: the variant check accepts every body of class 0 (R200 (a)). -/
theorem unknownTagCompletesAsGeneric : Obligations.UnknownTagCompletesAsGeneric := by
  intro tag s hreg
  have hok : Config.impl.variantCheck 0 tag (frameBody s) = .ok := Config.impl_valid.generic_ok ..
  exact ⟨decodeTag_generic tag hreg, congrArg Host.Outcome.next (dispatchFrame_of_ok hok)⟩

/-- In every valid block the modem-status tag has class 11 and the source's body `06` is accepted (R112, R200 (b)). -/
theorem dispatchFrame_modemStatus {cfg : Config} (hcfg : cfg.Valid) {s : State} (hbody : frameBody s = [0x06]) :
    dispatchFrame cfg 0x8A (cfg.registry 0x8A) s = completeFrame .typed 11 0x00 .frameOk s := by
  rw [hcfg.modemStatus]
  refine dispatchFrame_of_ok ?_
  rw [hbody]
  exact hcfg.modemStatus_ok

/-- Settles O18: `dispatchFrame_modemStatus` for the block given, and in the machine's own. -/
theorem modemStatusExampleCompletesTyped : Obligations.ModemStatusExampleCompletesTyped := by
  intro s hbody t
  have hdispatch (cfg : Config) (hcfg : cfg.Valid) : dispatchFrame cfg 0x8A (cfg.registry 0x8A) s = t :=
    dispatchFrame_modemStatus hcfg hbody
  refine ⟨fun cfg hcfg => ⟨hcfg.modemStatus, hdispatch cfg hcfg, congrArg _ (hdispatch cfg hcfg)⟩,
    Config.impl_valid.modemStatus, rfl, ?_⟩
  exact (exec_decodeTag 0x8A s).trans (congrArg _ (hdispatch Config.impl Config.impl_valid))

end Sys2Proof.Machine
end

section
/-! The checksum (O52, O53, O4; 40_checksum.md R140 to R146): the sum as a homomorphism from byte sequences to bytes,
which trailing byte completes it, and the four commands on the host's instance. -/

namespace Sys2Proof.Machine

theorem ckSum_append (bs bs' : List Byte) : ckSum (bs ++ bs') = ckSum bs + ckSum bs' := by
  rw [ckSum, List.foldl_append, foldl_ckAdd]
  rfl

theorem ckSum_perm {bs bs' : List Byte} (h : bs.Perm bs') : ckSum bs = ckSum bs' :=
  h.foldl_eq' (fun b _ c _ sum => add_right_comm sum b c) ckClear

theorem ckValue_eq_not (sum : Byte) : ckValue sum = ~~~sum := BitVec.allOnes_sub_eq_not sum

theorem ckVerify_iff_eq_ckValue (sum t : Byte) : ckVerify sum t = true ↔ t = ckValue sum := by
  rw [ckVerify_iff, ← add_ckValue sum, BitVec.add_right_inj]

/-- Settles O52: a completing byte is determined by cancellation, and the order and the splitting of the bytes are
those of an addition that commutes and associates. -/
theorem checksumLaws : Obligations.ChecksumLaws :=
  ⟨fun bs => ckVerify_iff_eq_ckValue (ckSum bs), ckValue_eq_not, fun _ _ => ckSum_perm, ckSum_append⟩

/-- The checksum of one sum verifies against no other. -/
theorem ckVerify_ckValue_iff (sum sum' : Byte) : ckVerify sum (ckValue sum') = true ↔ sum' = sum := by
  rw [ckVerify_iff_eq_ckValue, ckValue, ckValue, BitVec.sub_right_inj]

/-- Two sequences that differ at most in one byte have the same sum only where they do not differ (R146). -/
theorem ckSum_middle_inj (pre post : List Byte) (b c : Byte) :
    ckSum (pre ++ [b] ++ post) = ckSum (pre ++ [c] ++ post) ↔ b = c := by
  simp only [ckSum_append, ckSum_singleton, BitVec.add_left_inj, BitVec.add_right_inj]

theorem xor_one_shiftLeft_ne {k : Nat} (hk : k < 8) (b : Byte) : b ^^^ (1#8 <<< k) ≠ b := by
  have hbit : 1#8 <<< k ≠ 0#8 := by
    revert k
    decide
  exact fun h => hbit (xor_left_eq_self_iff.mp h)

/-- Settles O53: the flipped byte is another byte, so in the data the sum is another sum, and as the checksum it is not
the one byte that completes the sum. -/
theorem checksumDetectsOneFlippedBit : Obligations.ChecksumDetectsOneFlippedBit := by
  intro pre post b k hk
  constructor <;> rw [← Bool.not_eq_true]
  · rw [ckVerify_ckValue_iff, ckSum_middle_inj]
    exact (xor_one_shiftLeft_ne hk b).symm
  · rw [ckVerify_iff_eq_ckValue]
    exact xor_one_shiftLeft_ne hk (ckValue (ckSum pre))

/-- The words of the checksum commands, with any `A`, and any `D` where no operand is read (R105, R106). -/
theorem decodeCommand_checksumWords (a : BitVec 4) (d : Byte) :
    decodeCommand (commandWord 0x1 a d) = .ckClear ∧ decodeCommand (commandWord 0x2 a d) = .ckAdd d ∧
    decodeCommand (commandWord 0x3 a d) = .ckValue ∧ decodeCommand (commandWord 0x4 a d) = .ckVerify d := by
  simp [decodeCommand]

/-- `CK_VERIFY` answers whether its operand completes the host's sum, and keeps the sum (R144). -/
theorem exec_ckVerify (d : Byte) (s : State) :
    exec (.ckVerify d) s =
      .next { s with rsp := some ⟨false, 1, if s.hcSum + d = 0xFF then 0x01 else 0x00, 0⟩ } := by
  change Host.Outcome.next (respond false 1 (if ckVerify s.hcSum d = true then 0x01 else 0x00) 0x00 s) = _
  simp only [ckVerify_iff]
  rfl

/-- Settles O4: the words by the decoder's rows, the results by each command's definition. -/
theorem hostChecksumCommandResults : Obligations.HostChecksumCommandResults := by
  intro s a d
  obtain ⟨hclear, hadd, hvalue, hverify⟩ := decodeCommand_checksumWords a d
  exact ⟨⟨hclear, rfl⟩, ⟨hadd, rfl⟩, ⟨hvalue, rfl⟩, ⟨hverify, exec_ckVerify d s⟩⟩

end Sys2Proof.Machine
end

section
/-! The byte-stuffing codec (O54, O55, O5; 41_codec.md R161 to R170): each rule for the encoding of one byte, carried
over a sequence by its recursion, and the three host commands. -/

namespace Sys2Proof.Machine

/-- The decoder, with no marker pending, reads one byte's encoding as that byte and leaves none pending (R161, R166). -/
@[simp] theorem unescape_encodeByte_append (b : Byte) (ws : List Byte) :
    unescape false (encodeByte b ++ ws) = (b :: (unescape false ws).1, (unescape false ws).2) := by
  cases h : isSpecial b with
  | true =>
    rw [encodeByte_of_special h]
    change ((b ^^^ escXor ^^^ escXor) :: (unescape false ws).1, (unescape false ws).2) = _
    rw [xor_escXor_cancel]
  | false =>
    have hne : b ≠ escByte := by
      rintro rfl
      exact absurd h (by decide)
    simp [encodeByte_of_not_special h, unescape, decodeStep, hne]

/-- Settles O54: by induction on the sequence, one encoded byte at a time. -/
theorem unescapeReadsEscapeBack : Obligations.UnescapeReadsEscapeBack := by
  intro bs
  induction bs with
  | nil => rfl
  | cons b bs ih => rw [escape_cons, unescape_encodeByte_append, ih]

/-- A special byte is encoded in one wire byte more than a plain one (R161). -/
theorem length_encodeByte (b : Byte) : (encodeByte b).length = 1 + if isSpecial b = true then 1 else 0 := by
  cases h : isSpecial b with
  | true => rw [encodeByte_of_special h]; rfl
  | false => rw [encodeByte_of_not_special h]; rfl

/-- The size law (R163). -/
theorem length_escape (bs : List Byte) : (escape bs).length = bs.length + bs.countP isSpecial := by
  induction bs with
  | nil => rfl
  | cons b bs ih =>
    rw [escape_cons, List.length_append, length_encodeByte, ih, List.length_cons, List.countP_cons]
    omega

/-- The only special byte in an encoding is the escape marker, by the second constraint of R9 (R165). -/
theorem not_special_of_mem_encodeByte {b w : Byte} (hw : w ∈ encodeByte b) (hne : w ≠ escByte) :
    isSpecial w = false := by
  cases h : isSpecial b with
  | true =>
    rw [encodeByte_of_special h, List.mem_pair] at hw
    rw [hw.resolve_left hne]
    exact escaped_not_special b h
  | false =>
    rw [encodeByte_of_not_special h, List.mem_singleton] at hw
    rwa [hw]

theorem not_special_of_mem_escape {bs : List Byte} {w : Byte} (hw : w ∈ escape bs) (hne : w ≠ escByte) :
    isSpecial w = false := by
  induction bs with
  | nil => exact absurd hw List.not_mem_nil
  | cons b bs ih =>
    rw [escape_cons, List.mem_append] at hw
    exact hw.elim (not_special_of_mem_encodeByte · hne) ih

/-- Settles O55: the size law, and a wire byte is the escape marker, which R9 keeps apart from the other three, or is
not special. -/
theorem escapedSequencesHoldNoDelimiter : Obligations.EscapedSequencesHoldNoDelimiter := by
  refine fun bs => ⟨length_escape bs, fun w hw => ?_⟩
  by_cases h : w = escByte
  · subst h
    decide
  · have hplain := not_special_of_mem_escape hw h
    rw [← Bool.not_eq_true, isSpecial_iff] at hplain
    tauto

/-- The words of the codec commands, with any `A`, and any `D` where no operand is read (R105, R106). -/
theorem decodeCommand_codecWords (a : BitVec 4) (d : Byte) :
    decodeCommand (commandWord 0x5 a d) = .escEnc d ∧ decodeCommand (commandWord 0x6 a d) = .escDec d ∧
    decodeCommand (commandWord 0x7 a d) = .escClr := by
  simp [decodeCommand]

/-- `ESC_ENC` answers the encoding of its operand, and writes nothing else (R167). -/
theorem exec_escEnc (d : Byte) (s : State) :
    exec (.escEnc d) s =
      .next (if d = delim ∨ d = escByte ∨ d = xonByte ∨ d = xoffByte then
          { s with rsp := some ⟨false, 2, escByte, d ^^^ escXor⟩ }
        else { s with rsp := some ⟨false, 1, d, 0⟩ }) := by
  change execEscEnc d s = _
  simp only [execEscEnc, isSpecial_iff]
  rfl

/-- `ESC_DEC` answers what one decoder step from the host's pending bit gives, and keeps the step's pending bit
(R168). -/
theorem exec_escDec (w : Byte) (s : State) :
    exec (.escDec w) s =
      .next (if s.hdEsc = true then
          { s with hdEsc := false, rsp := some ⟨false, 1, w ^^^ escXor, 0⟩ }
        else if w = escByte then { s with hdEsc := true, rsp := some ⟨false, 0, 0, 0⟩ }
        else { s with hdEsc := false, rsp := some ⟨false, 1, w, 0⟩ }) := by
  refine (execEscDec_eq w s).trans (congrArg _ ?_)
  rcases decodeStep_cases s.hdEsc w with ⟨hp, e⟩ | ⟨hp, hw, e⟩ | ⟨hp, hw, e⟩ <;> rw [e]
  · rw [if_pos hp]; rfl
  · rw [if_neg (Bool.eq_false_iff.mp hp), if_pos hw]; rfl
  · rw [if_neg (Bool.eq_false_iff.mp hp), if_neg hw]; rfl

/-- Settles O5: the words by the decoder's rows, the results by each command's equation. -/
theorem hostCodecCommandResults : Obligations.HostCodecCommandResults := by
  intro s a d
  obtain ⟨henc, hdec, hclr⟩ := decodeCommand_codecWords a d
  exact ⟨⟨henc, exec_escEnc d s⟩, ⟨hdec, exec_escDec d s⟩, ⟨hclr, rfl⟩⟩

end Sys2Proof.Machine
end

section
/-! The accepted byte, one parser state at a time (O20 to O25; 42_parser.md R182 to R195): what each does to the whole
state. A wire byte that is no unpaired marker is one logical byte, whichever state reads it. -/

namespace Sys2Proof.Machine

/-! ### The delimiter and the length -/

/-- Settles O20: `rxAwaitDelim`, with the idle count the byte restarts. -/
theorem delimiterSearch : Obligations.DelimiterSearch := by
  intro cfg disp b s hps
  exact rxByte_of_awaitDelim cfg disp b hps

/-- The length as a 16-bit number of its two bytes (R102). -/
theorem lengthOf_eq_ofNat (hi lo : Byte) : lengthOf hi lo = BitVec.ofNat 16 (hi.toNat * 256 + lo.toNat) := by
  rw [← toNat_lengthOf, BitVec.ofNat_toNat, BitVec.setWidth_eq]

/-- Settles O21: the length the statement computes is `lengthOf`, whose bounds `rxLenLsb` tests in the same order. -/
theorem lengthBytesAreRawAndBounded : Obligations.LengthBytesAreRawAndBounded := by
  intro cfg disp b s len
  have hlen : len = lengthOf s.lenHi b := (lengthOf_eq_ofNat s.lenHi b).symm
  refine ⟨rxByte_of_readLenMsb cfg disp b, fun hps => ?_⟩
  rw [rxByte_of_readLenLsb cfg disp b hps, hlen]
  rfl

/-! ### Through the decoder -/

/-- Settles O22: the one case of the decoder that gives no logical byte. -/
theorem escapeMarkerWaitsForItsPair : Obligations.EscapeMarkerWaitsForItsPair := by
  intro cfg disp s hps hesc
  rw [rxByte_of_escaped cfg disp escByte hps]
  simp [rxEscaped, decodeStep, hesc]

/-- A byte that is no unpaired marker gives a logical byte, reported where it is special and unescaped (R166). -/
theorem decodeStep_of_logical {p : Bool} {b : Byte} (h : b ≠ escByte ∨ p = true) :
    decodeStep p b = ⟨false, some (if p = true then b ^^^ escXor else b),
      decide (p = false ∧ (b = delim ∨ b = xonByte ∨ b = xoffByte))⟩ := by
  rcases decodeStep_cases p b with ⟨hp, e⟩ | ⟨hp, hmarker, _⟩ | ⟨hp, hne, e⟩
  · rw [e]
    simp [hp]
  · simp [hp, hmarker] at h
  · have hspecial : isSpecial b = decide (b = delim ∨ b = xonByte ∨ b = xoffByte) := by
      rw [Bool.eq_iff_iff, isSpecial_iff, decide_eq_true_eq]
      simp [hne]
    rw [e, hspecial]
    simp [hp]

section
variable (cfg : Config) (disp : Dispatcher) {b v : Byte} {s : State}

/-- The logical byte of a wire byte that is no unpaired marker (R166). -/
def logicalOf (b : Byte) (s : State) : Byte := if s.rxEsc = true then b ^^^ escXor else b

/-- The state a logical byte is delivered to: the idle count restarted (R182), no marker pending, an unescaped special
byte reported (R166, R191). -/
def heard (b : Byte) (s : State) : State :=
  { s with
    rxEsc := false
    idleCnt := 0
    ev := if s.rxEsc = false ∧ (b = delim ∨ b = xonByte ∨ b = xoffByte) then s.ev ||| 0x040#9 else s.ev }

/-- A byte that is no unpaired marker is delivered as one logical byte (R191). -/
theorem rxByte_of_logical (hps : s.ps = .readType ∨ s.ps = .readBody ∨ s.ps = .readCksum)
    (hb : b ≠ escByte ∨ s.rxEsc = true) : rxByte cfg disp b s = deliver disp (logicalOf b s) (heard b s) := by
  rw [rxByte_of_escaped cfg disp b hps]
  simp only [rxEscaped, decodeStep_of_logical hb, decide_eq_true_eq, heard]
  by_cases hreport : s.rxEsc = false ∧ (b = delim ∨ b = xonByte ∨ b = xoffByte)
  · simp only [if_pos hreport]
    rfl
  · simp only [if_neg hreport]
    rfl

theorem deliver_of_readType (hps : s.ps = .readType) : deliver disp v s = .next (logicalType v s) := by
  simp only [deliver, hps]

theorem deliver_of_readBody (hps : s.ps = .readBody) : deliver disp v s = .next (logicalBody v s) := by
  simp only [deliver, hps]

theorem deliver_of_readCksum (hps : s.ps = .readCksum) : deliver disp v s = logicalCksum disp v s := by
  simp only [deliver, hps]

end

/-- Settles O23: `READ_TYPE` reads the logical byte. -/
theorem typeByteStartsTheFrameData : Obligations.TypeByteStartsTheFrameData := by
  intro cfg disp b s hps hb v
  rw [rxByte_of_logical cfg disp (.inl hps) hb]
  exact deliver_of_readType disp hps

/-- Settles O24: `READ_BODY` reads the logical byte. -/
theorem bodyByteIsStoredSummedCounted : Obligations.BodyByteIsStoredSummedCounted := by
  intro cfg disp b s hps hb v
  rw [rxByte_of_logical cfg disp (.inr (.inl hps)) hb]
  exact deliver_of_readBody disp hps

/-- Settles O25: `READ_CKSUM` reads the logical byte, and the verdict on a verified frame has three cases. -/
theorem checksumByteDecidesTheFrame : Obligations.ChecksumByteDecidesTheFrame := by
  intro cfg b s hps hb v ev0 cls
  rw [rxByte_of_logical cfg _ (.inr (.inr hps)) hb, deliver_of_readCksum _ (s := heard b s) hps]
  rcases logicalCksum_cases (registryDispatcher cfg) v (heard b s) with ⟨hck, e⟩ | ⟨hck, e⟩ <;> refine e.trans ?_
  · rw [if_pos ((ckVerify_iff s.rxSum v).mp hck)]
    change Host.Outcome.next (applyVerdict (cfg.variantCheck cls s.ftype (frameBody s)) _ _) = _
    cases cfg.variantCheck cls s.ftype (frameBody s) <;> rfl
  · have hsum : s.rxSum + v ≠ 0xFF := fun h => Bool.eq_false_iff.mp hck ((ckVerify_iff _ _).mpr h)
    rw [if_neg hsum]
    rfl

end Sys2Proof.Machine
end

section
/-! A cycle without a byte, the acceptance of a record and the body read port (O26, O28, O29, O34; 42_parser.md R196,
R198, R207, R208). -/

namespace Sys2Proof.Machine

/-- The mid-frame states, written out (00_scope.md R15). -/
theorem midFrame_iff (ps : ParserState) : ps.midFrame = true ↔
    ps = .readLenMsb ∨ ps = .readLenLsb ∨ ps = .readType ∨ ps = .readBody ∨ ps = .readCksum := by
  cases ps <;> simp [ParserState.midFrame]

/-- The count saturates at its largest value as a number (R196, R286). -/
theorem idleSucc_eq (n : Word32) : idleSucc n = if n.toNat = 0xFFFFFFFF then n else n + 1 :=
  if_congr BitVec.toNat_inj.symm rfl rfl

/-- Settles O26: the conditions of `tick`, with the mid-frame states and the saturating count written out. -/
theorem tickCountsAndTimesOut : Obligations.TickCountsAndTimesOut := by
  intro s midFrame n
  have counts : (s.run && s.ps.midFrame) = true ↔ s.run = true ∧ midFrame := by
    rw [Bool.and_eq_true, midFrame_iff]
  have hn : idleSucc s.idleCnt = n := idleSucc_eq s.idleCnt
  refine ⟨fun still => ?_, fun hrun hmid below => ?_, fun hrun hmid htmo reached => ?_⟩
  · refine if_neg fun h => ?_
    obtain ⟨hrun, hmid⟩ := counts.mp h
    exact still.elim (by simp [hrun]) (absurd hmid)
  · have inTime : ¬ (s.tmo ≠ 0 ∧ s.tmo.toNat ≤ n.toNat) := fun ⟨h0, hle⟩ =>
      below.elim h0 (Nat.not_lt.mpr hle)
    simp only [tick, if_pos (counts.mpr ⟨hrun, hmid⟩), hn, if_neg inTime]
  · have timedOut : s.tmo ≠ 0 ∧ s.tmo.toNat ≤ n.toNat := ⟨htmo, reached⟩
    simp only [tick, if_pos (counts.mpr ⟨hrun, hmid⟩), hn, if_pos timedOut]
    rfl

/-- Settles O34: of the three things a `Tick` can do, two change at most the count, and the third is the timeout. -/
theorem tickIsCountOrUntimedTimeout : Obligations.TickIsCountOrUntimedTimeout := by
  intro s
  rcases tick_cases s with ⟨_, e⟩ | ⟨_, _, _, e⟩ | ⟨hrun, hmid, _, _, e⟩
  · exact .inl ⟨s.idleCnt, e⟩
  · exact .inl ⟨_, e⟩
  · exact .inr ⟨hrun, hmid, e⟩

/-- Settles O28: the record's acceptance among the events of an edge, and its definition. -/
theorem frameAcceptOnlyLeavesComplete : Obligations.FrameAcceptOnlyLeavesComplete := by
  refine fun cfg disp inp s => ⟨foValid_iff s, ?_, rfl⟩
  cases hrst : inp.rst with
  | true => simp [cycleEvents, hrst]
  | false =>
    simp [cycleEvents, hrst, apply_ite (Event.foAccept ∈ ·)]

/-- Settles O29: the port's condition is the offered record's and the body's length. -/
theorem bodyReadPortShowsTheBody : Obligations.BodyReadPortShowsTheBody := by
  refine fun s addr => ⟨fun hps haddr => ?_, fun hout => ?_, ?_⟩
  · exact if_pos ⟨hps, by omega⟩
  · refine if_neg fun ⟨hps, haddr⟩ => ?_
    rcases hout with hne | hlen
    · exact hne hps
    · omega
  · exact if_neg (by simp)

end Sys2Proof.Machine
end

section
/-! The dispatch of a completed frame, at the edge that completes it, and the bounds of the body's count (O19, O36, O47;
42_parser.md R190, R193, R194, R197, 10_state.md R36). -/

namespace Sys2Proof.Machine

/-- What the dispatch of a frame can do: abandon it for its length, or complete it with a record (R194, R200). -/
theorem dispatchFrame_cases (cfg : Config) (tag cls : Byte) (s : State) :
    cfg.variantCheck cls tag (frameBody s) = .lenMismatch ∧ dispatchFrame cfg tag cls s = abandon .lenMismatch s ∨
    cfg.variantCheck cls tag (frameBody s) ≠ .lenMismatch ∧ ∃ kind fault e, (e = .frameOk ∨ e = .variantFault) ∧
      dispatchFrame cfg tag cls s = completeFrame kind cls fault e s := by
  rw [dispatchFrame]
  rcases applyVerdict_cases (cfg.variantCheck cls tag (frameBody s)) cls s with ⟨hv, e⟩ | ⟨c, hv, e⟩ | ⟨hv, e⟩
  · exact .inl ⟨hv, e⟩
  · exact .inr ⟨by simp [hv], _, _, _, .inr rfl, e⟩
  · exact .inr ⟨by simp [hv], _, _, _, .inl rfl, e⟩

/-- Settles O19: a tag's row is a dispatch, which writes the registers of its outcome alone. -/
theorem dispatchLeavesTheRestAlone : Obligations.DispatchLeavesTheRestAlone := by
  intro tag s t ht
  cases (exec_decodeTag tag s).symm.trans ht
  rcases dispatchFrame_cases Config.impl tag (Config.impl.registry tag) s with ⟨_, e⟩ | ⟨_, _, _, _, _, e⟩ <;> simp [e]

/-- At an edge that a running parser takes a byte at, the only event that can come before it is `TxPop` (R88). -/
theorem portEvents_of_rxByte {inp : PortInputs} {s : State} (hvalid : inp.rxValid = true) (hrun : s.run = true)
    (hps : s.ps ≠ .complete) :
    portEvents inp s = (if s.txq ≠ [] ∧ inp.txReady = true then [.txPop] else []) ++ [.rxByte inp.rxData] := by
  simp [portEvents, hvalid, hrun, hps]

/-- The event `TxPop`, where it happens (R52, R87). -/
theorem applyEvents_optional_txPop (cfg : Config) (disp : Dispatcher) (p : Prop) [Decidable p] (s : State) :
    applyEvents cfg disp (if p then [.txPop] else []) s = .next { s with txq := if p then s.txq.tail else s.txq } := by
  split <;> rfl

/-- Settles O36: the edge's events are at most a `TxPop`, and then the byte, which verifies the checksum. -/
theorem stepRunsTheCompletedTag : Obligations.StepRunsTheCompletedTag := by
  intro s v inp hrst hvalid hcmd hrun hps hout hsum
  have hd : decodeStep s.rxEsc inp.rxData = ⟨false, some v, (decodeStep s.rxEsc inp.rxData).flag⟩ := by
    rw [← decodeStep_pending_of_out hout, ← hout]
  have hck : ckVerify s.rxSum v = true := (ckVerify_iff _ _).mpr hsum
  have hno : ¬ (inp.cmdValid = true ∧ cmdReady Config.impl (takeInputs s) = true) := by simp [hcmd]
  have hps' : (takeInputs s).ps ≠ .complete := by simp [hps]
  refine (cycle_of_no_command hrst hno).trans ?_
  rw [portEvents_of_rxByte (s := takeInputs s) hvalid hrun hps', applyEvents_append, applyEvents_optional_txPop,
    andThen_next, applyEvents_singleton]
  refine (rxByte_of_verified Config.impl runTag (s := { clearPulses (takeInputs s) with
    txq := if s.txq ≠ [] ∧ inp.txReady = true then s.txq.tail else s.txq }) hps hd hck).trans ?_
  simp only [clearPulses_ev]
  rfl

/-- Settles O47: the three bounds the invariant gives in `READ_BODY`. -/
theorem bodyWritesStayInsideTheBuffer : Obligations.BodyWritesStayInsideTheBuffer :=
  fun _ _ _ hinv hps => ⟨hinv.writeIndex_lt hps, (hinv.bodyCount hps).2, hinv.toNat_rxCnt_add_one hps⟩

end Sys2Proof.Machine
end

section
/-! What the checksum byte can do (42_parser.md R194, R195): abandon the attempt or complete the frame. -/

namespace Sys2Proof.Machine

/-- The state in which the checksum byte is verified and its frame dispatched (R194). -/
def stamped (b : Byte) (s : State) : State := { heard b s with rxCk := logicalOf b s }

/-- What the wire byte of the checksum can do. -/
theorem rxByte_readCksum_cases (cfg : Config) {b : Byte} {s : State} (hps : s.ps = .readCksum)
    (hb : b ≠ escByte ∨ s.rxEsc = true) :
    let verified := ckVerify s.rxSum (logicalOf b s) = true
    let mismatch := cfg.variantCheck (cfg.registry s.ftype) s.ftype (frameBody s) = .lenMismatch
    let result := rxByte cfg (registryDispatcher cfg) b s
    ¬ verified ∧ result = .next (abandon .cksumFail (stamped b s)) ∨
    verified ∧ mismatch ∧ result = .next (abandon .lenMismatch (stamped b s)) ∨
    verified ∧ ¬ mismatch ∧ ∃ kind fault e, (e = .frameOk ∨ e = .variantFault) ∧
      result = .next (completeFrame kind (cfg.registry s.ftype) fault e (stamped b s)) := by
  intro verified mismatch result
  simp only [result]
  rw [rxByte_of_logical cfg _ (.inr (.inr hps)) hb, deliver_of_readCksum _ (s := heard b s) hps]
  rcases logicalCksum_cases (registryDispatcher cfg) (logicalOf b s) (heard b s) with ⟨hck, e⟩ | ⟨hck, e⟩ <;> rw [e]
  · rcases dispatchFrame_cases cfg s.ftype (cfg.registry s.ftype) (stamped b s) with
      ⟨hv, e⟩ | ⟨hv, kind, fault, name, hname, e⟩
    · exact .inr (.inl ⟨hck, hv, congrArg _ e⟩)
    · exact .inr (.inr ⟨hck, hv, kind, fault, name, hname, congrArg _ e⟩)
  · exact .inl ⟨Bool.eq_false_iff.mp hck, rfl⟩

end Sys2Proof.Machine
end

section
/-! The parser state every event leads to (O30; 42_parser.md R187): the transition table, an event at a time. -/

namespace Sys2Proof.Machine

section
variable {s t : State} {b : Byte}

/-- A `Tick` leaves the state only by a timeout (R196). -/
theorem tick_ps (cfg : Config) (s : State) : (tick s).ps = fsmNext cfg .tick s := by
  rcases tick_cases s with ⟨hstill, e⟩ | ⟨_, _, hbelow, e⟩ | ⟨hrun, hmid, htmo, hreached, e⟩ <;> rw [e, fsmNext]
  · exact (if_neg fun ⟨hrun, hmid, _⟩ => by simp [hrun, hmid] at hstill).symm
  · exact (if_neg fun ⟨_, _, htmo, hreached⟩ => hbelow.elim htmo (Nat.not_lt.mpr hreached)).symm
  · exact (if_pos ⟨hrun, hmid, htmo, hreached⟩).symm

/-- A command leaves the state only by a stop mid-frame (R252). -/
theorem runCommand_ps {w : Word16} (cfg : Config) (ht : runCommand w s = .next t) :
    t.ps = fsmNext cfg (.cmd w) s := by
  by_cases hprs : ∃ r, decodeCommand w = .prsCtrl r
  · obtain ⟨r, hr⟩ := hprs
    rw [runCommand, hr] at ht
    rcases execPrsCtrl_cases r s with ⟨hstop, hmid, e⟩ | ⟨hkeep, e⟩ <;> cases e.symm.trans ht
    · simp [fsmNext, hr, hstop, hmid]
    · have hnot : ¬ (r = false ∧ s.ps.midFrame = true) := by rcases hkeep with h | h <;> simp [h]
      simp [fsmNext, hr, hnot]
  · have hop : (fieldOp w).toNat ≠ 0xD := fun h =>
      hprs ⟨(fieldA w).getLsbD 0, by simpa [h] using decodeCommand_cases w⟩
    have hps : t.ps = s.ps := ((commandsLeaveOtherUnitsAlone w s t ht).1 hop).2.1
    rw [hps, fsmNext, if_neg fun h => hprs ⟨false, h.1⟩]

/-- A byte that is no unpaired marker gives a logical byte (R166). -/
theorem logical_of_not_marker {p : Bool} (h : ¬ (b = escByte ∧ p = false)) : b ≠ escByte ∨ p = true := by
  cases p <;> simp_all

/-- The second length byte leads on exactly where the length is in bounds (R185). -/
theorem rxLenLsb_ps (cfg : Config) (b : Byte) (s : State) : (rxLenLsb cfg b s).ps =
    if 1 ≤ (lengthOf s.lenHi b).toNat ∧ (lengthOf s.lenHi b).toNat ≤ cfg.maxBody + 1
    then .readType else .awaitDelim := by
  rcases rxLenLsb_cases cfg b s with ⟨h0, e⟩ | ⟨_, hover, e⟩ | ⟨h0, hle, e⟩ <;> rw [e]
  · exact (if_neg (by simp [h0])).symm
  · exact (if_neg (by omega)).symm
  · have hpos : (lengthOf s.lenHi b).toNat ≠ 0 := fun h => h0 (BitVec.eq_of_toNat_eq h)
    exact (if_pos (by omega)).symm

/-- An unpaired marker leads nowhere (R191). -/
theorem fsmNext_of_marker (cfg : Config) (hps : s.ps = .readType ∨ s.ps = .readBody ∨ s.ps = .readCksum)
    (hesc : s.rxEsc = false) : fsmNext cfg (.rxByte escByte) s = s.ps := by
  rcases hps with h | h | h <;> simp [fsmNext, h, hesc, decodeStep]

/-- A checksum byte leads where the verification and the variant check have it (R194, R195). -/
theorem fsmNext_of_readCksum (cfg : Config) (hps : s.ps = .readCksum) (hb : b ≠ escByte ∨ s.rxEsc = true) :
    fsmNext cfg (.rxByte b) s =
      if ckVerify s.rxSum (logicalOf b s) = true ∧
        cfg.variantCheck (cfg.registry s.ftype) s.ftype (frameBody s) ≠ .lenMismatch
      then .complete else .awaitDelim := by
  simp only [fsmNext, hps, decodeStep_of_logical hb]
  rfl

/-- Every byte leads where the table has it (R181 to R194). -/
theorem rxByte_ps (cfg : Config) (b : Byte) (s : State) :
    ∃ t, rxByte cfg (registryDispatcher cfg) b s = .next t ∧ t.ps = fsmNext cfg (.rxByte b) s := by
  by_cases hread : s.ps = .readType ∨ s.ps = .readBody ∨ s.ps = .readCksum
  · by_cases hmarker : b = escByte ∧ s.rxEsc = false
    · obtain ⟨rfl, hesc⟩ := hmarker
      exact ⟨_, escapeMarkerWaitsForItsPair cfg _ s hread hesc, (fsmNext_of_marker cfg hread hesc).symm⟩
    · have hlogical := logical_of_not_marker hmarker
      rcases hread with hps | hps | hps
      · refine ⟨_, typeByteStartsTheFrameData cfg _ b s hps hlogical, ?_⟩
        simp only [fsmNext, hps, if_neg hmarker]
      · refine ⟨_, bodyByteIsStoredSummedCounted cfg _ b s hps hlogical, ?_⟩
        simp only [fsmNext, hps, if_neg hmarker]
      · rw [fsmNext_of_readCksum cfg hps hlogical]
        rcases rxByte_readCksum_cases cfg hps hlogical with
          ⟨hck, e⟩ | ⟨hck, hv, e⟩ | ⟨hck, hv, _, _, _, _, e⟩ <;> refine ⟨_, e, ?_⟩
        · exact (if_neg fun h => hck h.1).symm
        · exact (if_neg fun h => h.2 hv).symm
        · exact (if_pos ⟨hck, hv⟩).symm
  · cases hps : s.ps with
    | awaitDelim =>
      refine ⟨_, delimiterSearch cfg _ b s hps, ?_⟩
      simp only [fsmNext, hps, apply_ite State.ps]
    | readLenMsb =>
      refine ⟨_, rxByte_of_readLenMsb cfg _ b hps, ?_⟩
      simp only [fsmNext, hps, rxLenMsb]
    | readLenLsb =>
      refine ⟨_, rxByte_of_readLenLsb cfg _ b hps, ?_⟩
      rw [rxLenLsb_ps]
      simp only [fsmNext, hps]
    | complete => exact ⟨s, rxByte_of_complete cfg _ b hps, by simp [fsmNext, hps]⟩
    | readType | readBody | readCksum => simp [hps] at hread

end

/-- Settles O30: the parser's events and the commands by their own lemmas, the other events by definition. -/
theorem parserFollowsTheTransitionTable : Obligations.ParserFollowsTheTransitionTable := by
  intro cfg e s henabled
  cases e with
  | txPop => exact ⟨_, rfl, rfl⟩
  | foAccept => exact ⟨_, rfl, (if_pos ((foValid_iff s).mp henabled)).symm⟩
  | rxByte b => exact rxByte_ps cfg b s
  | tick => exact ⟨_, rfl, tick_ps cfg s⟩
  | cmd w =>
    obtain ⟨t, ht⟩ := runCommand_next w s
    exact ⟨t, ht, runCommand_ps cfg ht⟩
  | reset => exact ⟨_, rfl, rfl⟩

end Sys2Proof.Machine
end

section
/-! What stays readable after an abandonment (O33; 42_parser.md R197, 60_exceptions.md R273, R279). -/

namespace Sys2Proof.Machine

/-- The abandonments of a frame attempt (R273): the event that reports one, and the state it leaves. -/
inductive Abandonment (s : State) : Event → State → Prop where
  /-- `LEN_ZERO` and `LEN_OVERSIZE` (R185): the offending length stays readable. -/
  | length (b : Byte) (e : EventName) (he : e = .lenZero ∨ e = .lenOversize) :
    Abandonment s (.rxByte b) (abandon e { s with idleCnt := 0, frameLen := lengthOf s.lenHi b })
  /-- `CKSUM_FAIL` and `LEN_MISMATCH` (R194, R195). -/
  | checksum (b : Byte) (e : EventName) (he : e = .cksumFail ∨ e = .lenMismatch) :
    Abandonment s (.rxByte b) (abandon e (stamped b s))
  /-- `TIMEOUT` (R196). -/
  | timeout (n : Word32) : Abandonment s .tick (abandon .timeout { s with idleCnt := n })

section
variable {cfg : Config} {s t : State}

/-- Reports outside a set of events stay outside it together. -/
theorem or_and_eq_zero {x y m : BitVec 9} (hx : x &&& m = 0) (hy : y &&& m = 0) : (x ||| y) &&& m = 0 := by
  rw [BitVec.and_or_distrib_right, hx, hy]
  rfl

/-- A logical byte reports at most `UNESC_SPECIAL`, which is bit 6 (R272). -/
theorem heard_ev_and_eq_zero {m : BitVec 9} (hm : 0x040#9 &&& m = 0) (hs : s.ev = 0) (b : Byte) :
    (heard b s).ev &&& m = 0 := by
  simp only [heard, hs]
  split
  · exact or_and_eq_zero BitVec.zero_and hm
  · exact BitVec.zero_and

/-- A byte reports an abandonment only where it is one. -/
theorem abandonment_of_rxByte {b : Byte} (hs : s.ev = 0) (ht : rxByte cfg (registryDispatcher cfg) b s = .next t) :
    t.ev &&& 0x03E#9 = 0 ∨ Abandonment s (.rxByte b) t := by
  have silent : s.ev &&& 0x03E#9 = 0 := by rw [hs]; rfl
  by_cases hread : s.ps = .readType ∨ s.ps = .readBody ∨ s.ps = .readCksum
  · by_cases hmarker : b = escByte ∧ s.rxEsc = false
    · obtain ⟨rfl, hesc⟩ := hmarker
      cases (escapeMarkerWaitsForItsPair cfg _ s hread hesc).symm.trans ht
      exact .inl silent
    · have hlogical := logical_of_not_marker hmarker
      have quiet : (heard b s).ev &&& 0x03E#9 = 0 := heard_ev_and_eq_zero (by decide) hs b
      rcases hread with hps | hps | hps
      · cases (typeByteStartsTheFrameData cfg _ b s hps hlogical).symm.trans ht
        exact .inl quiet
      · cases (bodyByteIsStoredSummedCounted cfg _ b s hps hlogical).symm.trans ht
        exact .inl quiet
      · rcases rxByte_readCksum_cases cfg hps hlogical with
          ⟨_, e⟩ | ⟨_, _, e⟩ | ⟨_, _, _, _, name, hname, e⟩ <;> cases e.symm.trans ht
        · exact .inr (.checksum b _ (.inl rfl))
        · exact .inr (.checksum b _ (.inr rfl))
        · exact .inl (or_and_eq_zero quiet (by rcases hname with rfl | rfl <;> decide))
  · cases hps : s.ps with
    | awaitDelim =>
      cases (delimiterSearch cfg _ b s hps).symm.trans ht
      exact .inl (by split <;> exact silent)
    | readLenMsb =>
      cases (rxByte_of_readLenMsb cfg _ b hps).symm.trans ht
      exact .inl silent
    | readLenLsb =>
      cases (rxByte_of_readLenLsb cfg _ b hps).symm.trans ht
      rcases rxLenLsb_cases cfg b { s with idleCnt := 0 } with ⟨_, e⟩ | ⟨_, _, e⟩ | ⟨_, _, e⟩ <;> rw [e]
      · exact .inr (.length b _ (.inl rfl))
      · exact .inr (.length b _ (.inr rfl))
      · exact .inl silent
    | complete =>
      cases (rxByte_of_complete cfg _ b hps).symm.trans ht
      exact .inl silent
    | readType | readBody | readCksum => simp [hps] at hread

/-- A command reports at most `CMD_ERR` (R276). -/
theorem runCommand_ev_and_eq_zero {m : BitVec 9} (hm : EventName.cmdErr.bit &&& m = 0) (hs : s.ev &&& m = 0)
    {w : Word16} (ht : runCommand w s = .next t) : t.ev &&& m = 0 := by
  cases runCommand_effect ht with
  | error => exact or_and_eq_zero hs hm
  | _ => exact hs

/-- An event reports an abandonment only where it is one (R279). -/
theorem abandonment_of_applyEvent {e : Event} (hs : s.ev = 0)
    (ht : applyEvent cfg (registryDispatcher cfg) e s = .next t) : t.ev &&& 0x03E#9 = 0 ∨ Abandonment s e t := by
  have silent : s.ev &&& 0x03E#9 = 0 := by rw [hs]; rfl
  cases e with
  | txPop => cases ht; exact .inl silent
  | foAccept => cases ht; exact .inl silent
  | rxByte b => exact abandonment_of_rxByte hs ht
  | tick =>
    cases ht
    rcases tick_cases s with ⟨_, e⟩ | ⟨_, _, _, e⟩ | ⟨_, _, _, _, e⟩ <;> rw [e]
    · exact .inl silent
    · exact .inl silent
    · exact .inr (.timeout _)
  | cmd w => exact .inl (runCommand_ev_and_eq_zero (by decide) silent ht)
  | reset => cases ht; exact .inl BitVec.zero_and

end

/-- Settles O33: of the three kinds of abandonment, each reports its own event, and only that of a length writes one. -/
theorem abandonmentKeepsTheDiagnosis : Obligations.AbandonmentKeepsTheDiagnosis := by
  intro cfg e s t _ ht hreported
  have abandoned : Abandonment (clearPulses s) e t := (abandonment_of_applyEvent rfl ht).resolve_left hreported
  cases abandoned with
  | length b name hname =>
    have offending : (0#9 ||| name.bit) &&& 0x00C#9 ≠ 0 := by
      rcases hname with rfl | rfl <;> decide
    exact ⟨rfl, rfl, rfl, rfl, rfl, rfl, fun _ => rfl, rfl, rfl, rfl, rfl, fun h => absurd h offending,
      fun _ => ⟨b, rfl, rfl⟩⟩
  | checksum b name hname =>
    have other : ((heard b (clearPulses s)).ev ||| name.bit) &&& 0x00C#9 = 0 :=
      or_and_eq_zero (heard_ev_and_eq_zero (by decide) rfl b) (by rcases hname with rfl | rfl <;> decide)
    exact ⟨rfl, rfl, rfl, rfl, rfl, rfl, fun _ => rfl, rfl, rfl, rfl, rfl, fun _ => rfl, absurd other⟩
  | timeout n =>
    have other : (0#9 ||| EventName.timeout.bit) &&& 0x00C#9 = 0 := by decide
    exact ⟨rfl, rfl, rfl, rfl, rfl, rfl, fun _ => rfl, rfl, rfl, rfl, rfl, fun _ => rfl, absurd other⟩

end Sys2Proof.Machine
end

section
/-! Frames in a byte stream (O60; 42_parser.md R203, R204, 43_composer.md R235): the parser over garbage, over the
header of a composed frame, over its escaped body by induction, and over its checksum. -/

namespace Sys2Proof.Machine

section
variable {cfg : Config} {disp : Dispatcher} {s t : State} {b v tag : Byte} {len : Word16} {got body ws : List Byte}

/-! ### One wire byte, one logical byte -/

/-- What a stream gives from the byte on that leaves the state `t` (R204). -/
def parseAfterByte (cfg : Config) (disp : Dispatcher) (ws : List Byte) (t : State) : ParseResult :=
  if t.ps = .complete then ParseResult.after [frameRecord t] [t.ev] (parseFrom cfg disp ws (foAccept t))
  else if t.ev = 0 then parseFrom cfg disp ws t
  else ParseResult.after [] [t.ev] (parseFrom cfg disp ws t)

theorem parseFrom_of_next (ht : rxByte cfg disp b (clearPulses s) = .next t) :
    parseFrom cfg disp (b :: ws) s = parseAfterByte cfg disp ws t := by
  simp only [parseFrom, ht]
  rfl

/-- A byte that completes no frame and reports nothing only moves the state. -/
theorem parseAfterByte_of_quiet (hps : t.ps ≠ .complete) (hev : t.ev = 0) :
    parseAfterByte cfg disp ws t = parseFrom cfg disp ws t := by
  rw [parseAfterByte, if_neg hps, if_pos hev]

/-- The state to which the logical byte of an encoded byte is delivered. -/
def listening (s : State) : State := { clearPulses s with rxEsc := false, idleCnt := 0 }

/-- The state between the two wire bytes of an escape pair. -/
def marked (s : State) : State := { clearPulses s with rxEsc := true, idleCnt := 0 }

/-- The second byte of an escape pair is the byte that was escaped (R161, R166). -/
theorem rxByte_marked (hps : s.ps = .readType ∨ s.ps = .readBody ∨ s.ps = .readCksum) (v : Byte) :
    rxByte cfg disp (v ^^^ escXor) (clearPulses (marked s)) = deliver disp v (listening s) := by
  rw [rxByte_of_logical cfg disp (s := clearPulses (marked s)) hps (.inr rfl)]
  exact congrArg (deliver disp · (listening s)) (xor_escXor_cancel v)

/-- A plain byte is itself, and is not reported (R161, R166). -/
theorem rxByte_plain (hps : s.ps = .readType ∨ s.ps = .readBody ∨ s.ps = .readCksum) (hesc : s.rxEsc = false)
    (hv : isSpecial v = false) : rxByte cfg disp v (clearPulses s) = deliver disp v (listening s) := by
  rw [← Bool.not_eq_true, isSpecial_iff] at hv
  have unreported : heard v (clearPulses s) = listening s := by
    rw [heard, if_neg (by tauto)]
    rfl
  rw [rxByte_of_logical cfg disp (s := clearPulses s) hps (.inl (by tauto)), unreported, logicalOf, clearPulses_rxEsc,
    hesc]
  rfl

/-- A byte's encoding, one wire byte or two, is that one logical byte to the state that reads it (R191). -/
theorem parseFrom_encodeByte_append (hps : s.ps = .readType ∨ s.ps = .readBody ∨ s.ps = .readCksum)
    (hesc : s.rxEsc = false) (ht : deliver disp v (listening s) = .next t) :
    parseFrom cfg disp (encodeByte v ++ ws) s = parseAfterByte cfg disp ws t := by
  cases hv : isSpecial v with
  | true =>
    have marker : rxByte cfg disp escByte (clearPulses s) = .next (marked s) :=
      escapeMarkerWaitsForItsPair cfg disp (clearPulses s) hps hesc
    have waiting : (marked s).ps ≠ .complete := by rcases hps with h | h | h <;> simp [marked, h]
    rw [encodeByte_of_special hv, List.cons_append, parseFrom_of_next marker, parseAfterByte_of_quiet waiting rfl]
    exact parseFrom_of_next ((rxByte_marked hps v).trans ht)
  | false =>
    rw [encodeByte_of_not_special hv]
    exact parseFrom_of_next ((rxByte_plain hps hesc hv).trans ht)

/-! ### Between frames -/

/-- The parser waits for a delimiter, with its buffer in canonical form. -/
structure AwaitsFrame (s : State) : Prop where
  ps : s.ps = .awaitDelim
  wf : s.bodyBuf.wf

/-- Bytes without a delimiter are discarded (R183, R203). -/
theorem parseFrom_garbage_append (cfg : Config) (disp : Dispatcher) (hs : AwaitsFrame s) {g : List Byte}
    (hg : delim ∉ g) :
    ∃ t, AwaitsFrame t ∧ ∀ ws, parseFrom cfg disp (g ++ ws) s = parseFrom cfg disp ws t := by
  induction g generalizing s with
  | nil => exact ⟨s, hs, fun _ => rfl⟩
  | cons b g ih =>
    have discarded := delimiterSearch cfg disp b (clearPulses s) hs.ps
    rw [if_neg (List.ne_of_not_mem_cons hg).symm] at discarded
    obtain ⟨t, ht, hrest⟩ :=
      ih (s := { clearPulses s with idleCnt := 0 }) ⟨hs.ps, hs.wf⟩ (List.not_mem_of_not_mem_cons hg)
    refine ⟨t, ht, fun ws => ?_⟩
    rw [List.cons_append, parseFrom_of_next discarded, parseAfterByte_of_quiet (by simp [hs.ps]) rfl]
    exact hrest ws

/-! ### The header -/

/-- The parser expects the type byte of a frame of the given length. -/
structure ExpectsType (len : Word16) (s : State) : Prop where
  ps : s.ps = .readType
  rxEsc : s.rxEsc = false
  rxSum : s.rxSum = 0
  frameLen : s.frameLen = len
  wf : s.bodyBuf.wf

/-- The state after the delimiter (R183). -/
def expectsMsb (s : State) : State :=
  { clearPulses s with rxSum := 0x00, rxCnt := 0, rxEsc := false, idleCnt := 0, ps := .readLenMsb }

/-- The state after the first length byte (R184). -/
def expectsLsb (hi : Byte) (s : State) : State := { clearPulses s with lenHi := hi, idleCnt := 0, ps := .readLenLsb }

/-- The state after a length within the buffer (R185). -/
def expectsType (len : Word16) (s : State) : State :=
  { clearPulses s with frameLen := len, idleCnt := 0, ps := .readType }

/-- The second byte of a length within the buffer leads on with that length (R185). -/
theorem rxLenLsb_of_inBounds (hhi : s.lenHi = highByte len) (hpos : len ≠ 0) (hle : len.toNat - 1 ≤ cfg.maxBody) :
    rxLenLsb cfg (lowByte len) s = { s with frameLen := len, ps := .readType } := by
  have hlen : lengthOf s.lenHi (lowByte len) = len := by rw [hhi, lengthOf_bytes]
  rcases rxLenLsb_cases cfg (lowByte len) s with ⟨h0, _⟩ | ⟨_, hover, _⟩ | ⟨_, _, e⟩
  · exact absurd (hlen.symm.trans h0) hpos
  · rw [hlen] at hover
    omega
  · rw [e, hlen]

/-- A delimiter and a length within the buffer start a frame (R183 to R185). -/
theorem parseFrom_header_append (cfg : Config) (disp : Dispatcher) (hs : AwaitsFrame s) (hpos : len ≠ 0)
    (hle : len.toNat - 1 ≤ cfg.maxBody) :
    ∃ t, ExpectsType len t ∧
      ∀ ws, parseFrom cfg disp (delim :: highByte len :: lowByte len :: ws) s = parseFrom cfg disp ws t := by
  have start : rxByte cfg disp delim (clearPulses s) = .next (expectsMsb s) :=
    delimiterSearch cfg disp delim (clearPulses s) hs.ps
  have msb : rxByte cfg disp (highByte len) (clearPulses (expectsMsb s)) =
      .next (expectsLsb (highByte len) (expectsMsb s)) := rxByte_of_readLenMsb cfg disp _ rfl
  have lsb : rxByte cfg disp (lowByte len) (clearPulses (expectsLsb (highByte len) (expectsMsb s))) =
      .next (expectsType len (expectsLsb (highByte len) (expectsMsb s))) :=
    (rxByte_of_readLenLsb cfg disp _ rfl).trans (congrArg _ (rxLenLsb_of_inBounds rfl hpos hle))
  refine ⟨expectsType len (expectsLsb (highByte len) (expectsMsb s)), ⟨rfl, rfl, rfl, rfl, hs.wf⟩, fun ws => ?_⟩
  rw [parseFrom_of_next start, parseAfterByte_of_quiet (by simp [expectsMsb]) rfl,
    parseFrom_of_next msb, parseAfterByte_of_quiet (by simp [expectsLsb]) rfl,
    parseFrom_of_next lsb, parseAfterByte_of_quiet (by simp [expectsType]) rfl]

/-! ### The frame data -/

/-- The parser has received the tag and the bytes `got` of a frame of the given length. -/
structure Received (tag : Byte) (len : Word16) (got : List Byte) (s : State) : Prop where
  ps : s.ps = if s.rxCnt = s.frameLen then .readCksum else .readBody
  rxEsc : s.rxEsc = false
  ftype : s.ftype = tag
  frameLen : s.frameLen = len
  rxCnt : s.rxCnt = frameLength got
  rxSum : s.rxSum = ckSum (tag :: got)
  body : s.bodyBuf.prefixBytes got.length = got
  wf : s.bodyBuf.wf

theorem Received.ps_ne_complete (h : Received tag len got s) : s.ps ≠ .complete := by
  rw [h.ps]
  split <;> decide

/-- The length field of a body counts the tag and wraps for no body that fits (R235). -/
theorem toNat_frameLength (h : body.length ≤ 65534) : (frameLength body).toNat = body.length + 1 := by
  simp only [frameLength, BitVec.toNat_ofNat]
  omega

theorem frameLength_concat (got : List Byte) (v : Byte) : frameLength (got ++ [v]) = frameLength got + 1 := by
  rw [frameLength, List.length_append, ← Nat.add_assoc, BitVec.ofNat_add]
  rfl

/-- The type byte is the first one received (R192). -/
theorem received_logicalType (h : ExpectsType len s) (tag : Byte) :
    Received tag len [] (logicalType tag (listening s)) where
  ps := by simp [logicalType, eq_comm]
  rxEsc := rfl
  ftype := rfl
  frameLen := h.frameLen
  rxCnt := rfl
  rxSum := by simp [logicalType, listening, h.rxSum, ckAdd]
  body := rfl
  wf := h.wf

/-- A body byte is received behind the ones before it (R193). -/
theorem Received.logicalBody (h : Received tag len got s) (hroom : got.length < 65534) (v : Byte) :
    Received tag len (got ++ [v]) (logicalBody v (listening s)) where
  ps := rfl
  rxEsc := rfl
  ftype := h.ftype
  frameLen := h.frameLen
  rxCnt := by
    rw [frameLength_concat, ← h.rxCnt]
    rfl
  rxSum := by
    rw [← List.cons_append, ckSum_concat, ← h.rxSum]
    rfl
  body := by
    have hcount := toNat_frameLength (body := got) (by omega)
    rw [← h.rxCnt] at hcount
    have hindex : (s.rxCnt - 1).toNat = got.length := by bv_omega
    change (s.bodyBuf.write (s.rxCnt - 1).toNat v).prefixBytes (got ++ [v]).length = got ++ [v]
    rw [hindex, List.length_append, List.length_singleton, Memory.prefixBytes_write_succ h.wf, h.body]
  wf := Memory.write_wf h.wf _ v

/-- The escaped rest of a body is received byte by byte. -/
theorem parseFrom_escape_append (cfg : Config) (disp : Dispatcher) (rest : List Byte)
    (hfit : (got ++ rest).length ≤ 65534) (h : Received tag (frameLength (got ++ rest)) got s) :
    ∃ t, Received tag (frameLength (got ++ rest)) (got ++ rest) t ∧
      ∀ ws, parseFrom cfg disp (escape rest ++ ws) s = parseFrom cfg disp ws t := by
  induction rest generalizing got s with
  | nil => exact ⟨s, by simpa using h, fun _ => rfl⟩
  | cons v rest ih =>
    have hroom : got.length + (rest.length + 1) ≤ 65534 := by simpa using hfit
    have hps : s.ps = .readBody := by
      have hmore : s.rxCnt ≠ s.frameLen := fun heq => by
        rw [h.rxCnt, h.frameLen] at heq
        have heq := congrArg BitVec.toNat heq
        rw [toNat_frameLength (by omega), toNat_frameLength hfit] at heq
        simp at heq
      rw [h.ps, if_neg hmore]
    have delivered : deliver disp v (listening s) = .next (logicalBody v (listening s)) :=
      deliver_of_readBody disp hps
    have next := h.logicalBody (by omega) v
    rw [List.append_cons] at hfit next ⊢
    obtain ⟨t, ht, hrest⟩ := ih hfit next
    refine ⟨t, ht, fun ws => ?_⟩
    rw [escape_cons, List.append_assoc, parseFrom_encodeByte_append (.inr (.inl hps)) h.rxEsc delivered,
      parseAfterByte_of_quiet next.ps_ne_complete rfl, hrest]

/-! ### The whole frame -/

/-- The frame of the given tag and body is in the registers and the buffer, with its checksum. -/
structure HoldsFrame (tag : Byte) (body : List Byte) (s : State) : Prop where
  ftype : s.ftype = tag
  frameLen : s.frameLen = frameLength body
  rxCk : s.rxCk = frameChecksum tag body
  body : frameBody s = body
  ev : s.ev = 0
  wf : s.bodyBuf.wf

/-- The checksum of a frame received whole dispatches it (R194). -/
theorem parseFrom_checksum_append (cfg : Config) (hfit : body.length ≤ 65534)
    (h : Received tag (frameLength body) body s) :
    ∃ t, HoldsFrame tag body t ∧ ∀ ws,
      parseFrom cfg (registryDispatcher cfg) (encodeByte (frameChecksum tag body) ++ ws) s =
        parseAfterByte cfg (registryDispatcher cfg) ws (dispatchFrame cfg tag (cfg.registry tag) t) := by
  have hps : s.ps = .readCksum := by rw [h.ps, if_pos (h.rxCnt.trans h.frameLen.symm)]
  have hck : ckVerify s.rxSum (frameChecksum tag body) = true := by
    rw [h.rxSum, ckVerify_iff]
    exact add_ckValue _
  have delivered := (deliver_of_readCksum (registryDispatcher cfg) (v := frameChecksum tag body)
    (s := listening s) hps).trans (if_pos hck)
  have hbody : s.bodyBuf.prefixBytes (s.frameLen.toNat - 1) = body := by
    rw [h.frameLen, toNat_frameLength hfit]
    exact h.body
  refine ⟨{ listening s with rxCk := frameChecksum tag body },
    ⟨h.ftype, h.frameLen, rfl, hbody, rfl, h.wf⟩, fun ws => ?_⟩
  rw [← h.ftype]
  rw [← h.ftype] at delivered
  exact parseFrom_encodeByte_append (.inr (.inr hps)) h.rxEsc delivered

theorem escape_append (bs bs' : List Byte) : escape (bs ++ bs') = escape bs ++ escape bs' := by
  induction bs with
  | nil => rfl
  | cons b bs ih => rw [List.cons_append, escape_cons, escape_cons, ih, List.append_assoc]

/-- The wire bytes of a frame: header, tag, body, checksum (R235). -/
theorem compose_append (tag : Byte) (body ws : List Byte) : compose tag body ++ ws =
    delim :: highByte (frameLength body) :: lowByte (frameLength body) ::
      (encodeByte tag ++ (escape body ++ (encodeByte (frameChecksum tag body) ++ ws))) := by
  simp [compose, escape_append]

/-- A composed frame that fits the buffer is dispatched with its tag, its body and its checksum (R238). -/
theorem parseFrom_compose_append (hcfg : cfg.Valid) (hs : AwaitsFrame s) (hbody : body.length ≤ cfg.maxBody)
    (tag : Byte) :
    ∃ t, HoldsFrame tag body t ∧ ∀ ws, parseFrom cfg (registryDispatcher cfg) (compose tag body ++ ws) s =
      parseAfterByte cfg (registryDispatcher cfg) ws (dispatchFrame cfg tag (cfg.registry tag) t) := by
  have hfit : body.length ≤ 65534 := hbody.trans hcfg.maxBody_le
  have hlen := toNat_frameLength hfit
  have hpos : frameLength body ≠ 0 := fun h => by simp [h] at hlen
  obtain ⟨t0, h0, header⟩ := parseFrom_header_append cfg (registryDispatcher cfg) hs hpos (by omega)
  have typed := received_logicalType h0 tag
  obtain ⟨t1, h1, data⟩ := parseFrom_escape_append cfg (registryDispatcher cfg) (got := []) body hfit typed
  obtain ⟨t, ht, checksum⟩ := parseFrom_checksum_append cfg hfit h1
  refine ⟨t, ht, fun ws => ?_⟩
  rw [compose_append, header, parseFrom_encodeByte_append (.inl h0.ps) h0.rxEsc (deliver_of_readType _ h0.ps),
    parseAfterByte_of_quiet typed.ps_ne_complete rfl, data, checksum]

/-- A frame that completes gives its record and its event, and the record is accepted at once (R204, R206). -/
theorem HoldsFrame.parseAfterByte_completeFrame (h : HoldsFrame tag body t) (kind : FoKind) (cls fault : Byte)
    (e : EventName) : parseAfterByte cfg disp ws (completeFrame kind cls fault e t) =
      (parseFrom cfg disp ws (foAccept (completeFrame kind cls fault e t))).after
        [⟨kind, cls, tag, frameLength body, frameChecksum tag body, fault, body⟩] [e.bit] := by
  have record : frameRecord (completeFrame kind cls fault e t) =
      ⟨kind, cls, t.ftype, t.frameLen, t.rxCk, fault, frameBody t⟩ := rfl
  rw [parseAfterByte, if_pos (completeFrame_ps ..), record, h.ftype, h.frameLen, h.rxCk, h.body, completeFrame_ev, h.ev]
  exact congrArg (ParseResult.after _ [·] _) BitVec.zero_or

/-- The record of a frame the variant check accepts (R206). -/
def acceptedRecord (cfg : Config) (tag : Byte) (body : List Byte) : FrameRecord :=
  ⟨if cfg.registry tag = 0 then .generic else .typed, cfg.registry tag, tag, frameLength body,
    frameChecksum tag body, 0x00, body⟩

/-- A composed frame that the variant check accepts gives its record and `FRAME_OK`. -/
theorem parseFrom_accepted_append (hcfg : cfg.Valid) (hs : AwaitsFrame s) (hbody : body.length ≤ cfg.maxBody)
    (hok : cfg.variantCheck (cfg.registry tag) tag body = .ok) :
    ∃ t, AwaitsFrame t ∧ ∀ ws, parseFrom cfg (registryDispatcher cfg) (compose tag body ++ ws) s =
      (parseFrom cfg (registryDispatcher cfg) ws t).after [acceptedRecord cfg tag body] [0x001#9] := by
  obtain ⟨t, ht, parsed⟩ := parseFrom_compose_append hcfg hs hbody tag
  have completed := dispatchFrame_of_ok (s := t) (ht.body.symm ▸ hok)
  refine ⟨foAccept (dispatchFrame cfg tag (cfg.registry tag) t), ⟨rfl, completed ▸ ht.wf⟩, fun ws => ?_⟩
  rw [parsed, completed]
  exact ht.parseAfterByte_completeFrame ..

end

/-- Settles O60: the garbage is skipped, each frame gives its record, and the parser awaits the next after each. -/
theorem framesAreFoundInGarbage : Obligations.FramesAreFoundInGarbage := by
  intro cfg s g1 g2 tag1 tag2 body1 body2 hcfg hps hwf hbody1 hbody2 hg1 hg2 hok1 hok2
  obtain ⟨s1, h1, skip1⟩ := parseFrom_garbage_append cfg (registryDispatcher cfg) ⟨hps, hwf⟩ hg1
  obtain ⟨s2, h2, frame1⟩ := parseFrom_accepted_append hcfg h1 hbody1 hok1
  obtain ⟨s3, h3, skip2⟩ := parseFrom_garbage_append cfg (registryDispatcher cfg) h2 hg2
  obtain ⟨s4, h4, frame2⟩ := parseFrom_accepted_append hcfg h3 hbody2 hok2
  intro r record
  have parsed : r = ⟨[record tag1 body1, record tag2 body2], [0x001#9, 0x001#9], s4⟩ := by
    have last := frame2 []
    rw [List.append_nil] at last
    simp only [r, List.append_assoc, skip1, frame1, skip2, last]
    rfl
  rw [parsed]
  exact ⟨rfl, rfl, h4.ps⟩

end Sys2Proof.Machine
end

section
/-! The composer's commands (O6, O7; 43_composer.md R231 to R237): each command as one equation in every state, whose
condition is the command error's. -/

namespace Sys2Proof.Machine

/-- The words of the composer commands, with any `A`, and any `D` where no operand is read (R105, R106). -/
theorem decodeCommand_composerWords (a : BitVec 4) (d : Byte) :
    decodeCommand (commandWord 0x8 a d) = .txLenH d ∧ decodeCommand (commandWord 0x9 a d) = .txLenL d ∧
    decodeCommand (commandWord 0xA a d) = .txByte d ∧ decodeCommand (commandWord 0xB a d) = .txEnd ∧
    decodeCommand (commandWord 0xC a d) = .txAbort := by
  simp [decodeCommand]

/-- `TX_LENH` needs the composer closed (R231). -/
theorem exec_txLenH (d : Byte) (s : State) :
    exec (.txLenH d) s = .next (if s.txOpen = true then raiseCmdErr s else done { s with txLenHi := d }) := rfl

/-- `TX_LENL` needs the composer closed and a length (R232). -/
theorem exec_txLenL (d : Byte) (s : State) :
    exec (.txLenL d) s = .next (if s.txOpen = true ∨ lengthOf s.txLenHi d = 0 then raiseCmdErr s
      else done { enqueue [delim, s.txLenHi, d] s with
        txRem := lengthOf s.txLenHi d, txSum := ckClear, txOpen := true }) := by
  rcases execTxLenL_cases d s with ⟨herr, e⟩ | ⟨hclosed, hlen, e⟩
  · rw [if_pos (by rwa [lengthOf_eq_zero])]
    exact e
  · rw [if_neg (not_or.mpr ⟨by simp [hclosed], hlen⟩)]
    exact e

/-- `TX_BYTE` needs a frame open with a byte to come (R233). -/
theorem exec_txByte (d : Byte) (s : State) :
    exec (.txByte d) s = .next (if s.txOpen = false ∨ s.txRem = 0 then raiseCmdErr s
      else done { enqueue (encodeByte d) s with txSum := ckAdd s.txSum d, txRem := s.txRem - 1 }) := by
  rcases execTxByte_cases d s with ⟨herr, e⟩ | ⟨hopen, hrem, e⟩
  · rw [if_pos herr]
    exact e
  · rw [if_neg (not_or.mpr ⟨by simp [hopen], hrem⟩)]
    exact e

/-- `TX_END` needs a frame open with no byte to come (R234). -/
theorem exec_txEnd (s : State) :
    exec .txEnd s = .next (if s.txOpen = false ∨ s.txRem ≠ 0 then raiseCmdErr s
      else done { enqueue (encodeByte (ckValue s.txSum)) s with txOpen := false }) := by
  rcases execTxEnd_cases s with ⟨herr, e⟩ | ⟨hopen, hrem, e⟩
  · rw [if_pos herr]
    exact e
  · rw [if_neg (by simp [hopen, hrem])]
    exact e

/-- Settles O6: the words by the decoder's rows, the results by each command's equation. -/
theorem composerCommandResults : Obligations.ComposerCommandResults := by
  intro s a d
  obtain ⟨hlenH, hlenL, hbyte, hend, habort⟩ := decodeCommand_composerWords a d
  exact ⟨⟨hlenH, exec_txLenH d s⟩, ⟨hlenL, exec_txLenL d s⟩, ⟨hbyte, exec_txByte d s⟩, ⟨hend, exec_txEnd s⟩,
    ⟨habort, rfl⟩⟩

/-- `TX_ABORT` responds without an error, also where no frame is open (R236). -/
theorem exec_txAbort_ne_raiseCmdErr (s : State) : exec .txAbort s ≠ .next (raiseCmdErr s) := by
  intro h
  injection h with h
  have herr : some ⟨false, 0, 0, 0⟩ = some (⟨true, 0, 0, 0⟩ : Response) := congrArg State.rsp h
  exact absurd herr (by decide)

/-- Settles O7: the error's condition is that of the command's equation. -/
theorem composerCommandErrors : Obligations.ComposerCommandErrors := by
  intro s d
  exact ⟨fun h => (exec_txLenH d s).trans (congrArg _ (if_pos h)),
    fun h => (exec_txLenL d s).trans (congrArg _ (if_pos h)),
    fun h => (exec_txByte d s).trans (congrArg _ (if_pos h)),
    fun h => (exec_txEnd s).trans (congrArg _ (if_pos h)),
    exec_txAbort_ne_raiseCmdErr s⟩

end Sys2Proof.Machine
end

section
/-! Composing a whole frame (O57; 43_composer.md R230, R235, 30_encoding.md R116): the length opens a frame that owes its
bytes, and each byte given is queued in its encoding, summed and counted down. -/

namespace Sys2Proof.Machine

/-- The state after the length of a frame: it is queued raw behind a delimiter and its bytes are owed (R231, R232). -/
def frameOpened (len : Word16) (s : State) : State :=
  done { enqueue [delim, highByte len, lowByte len] s with
    txLenHi := highByte len, txRem := len, txSum := ckClear, txOpen := true }

/-- The state after the bytes an open frame owes and its end: they are queued escaped, with their checksum (R233,
R234). -/
def frameGiven (bs : List Byte) (s : State) : State :=
  done { enqueue (escape (bs ++ [ckValue (bs.foldl ckAdd s.txSum)])) s with
    txSum := bs.foldl ckAdd s.txSum, txRem := 0, txOpen := false }

/-- A length opens a frame where the composer is closed (R230). -/
theorem execAll_txLen_append {s : State} (hclosed : s.txOpen = false) {len : Word16} (hlen : len ≠ 0)
    (rest : List Instr) : execAll (pseudoTxLen len ++ rest) s = execAll rest (frameOpened len s) := by
  have hallowed : ¬ (s.txOpen = true ∨ lengthOf (highByte len) (lowByte len) = 0) := by
    rw [lengthOf_bytes]
    exact not_or.mpr ⟨by simp [hclosed], hlen⟩
  have high : exec (.txLenH (highByte len)) s = .next (done { s with txLenHi := highByte len }) :=
    (exec_txLenH _ s).trans (congrArg _ (if_neg fun hopen => hallowed (.inl hopen)))
  have low : exec (.txLenL (lowByte len)) (done { s with txLenHi := highByte len }) =
      .next (done { enqueue [delim, highByte len, lowByte len] (done { s with txLenHi := highByte len }) with
        txRem := lengthOf (highByte len) (lowByte len), txSum := ckClear, txOpen := true }) :=
    (exec_txLenL _ _).trans (congrArg _ (if_neg hallowed))
  rw [lengthOf_bytes] at low
  simp only [pseudoTxLen, List.cons_append, List.nil_append, execAll, high, low, andThen_next]
  rfl

/-- A frame given all the bytes it owes is ended with their checksum (R230). -/
theorem execAll_txBytes_txEnd {bs : List Byte} {s : State} (hopen : s.txOpen = true) (hfit : bs.length < 65536)
    (hrem : s.txRem = BitVec.ofNat 16 bs.length) :
    execAll (bs.map .txByte ++ [.txEnd]) s = .next (frameGiven bs s) := by
  induction bs generalizing s with
  | nil =>
    have ended := (exec_txEnd s).trans (congrArg _ (if_neg (by simp [hopen, hrem])))
    have hzero : s.txRem = 0#16 := hrem
    simp [execAll, ended, frameGiven, hzero]
  | cons b bs ih =>
    have hcount : s.txRem.toNat = bs.length + 1 := by
      rw [hrem, BitVec.toNat_ofNat, Nat.mod_eq_of_lt hfit, List.length_cons]
    have howed : s.txRem ≠ 0 := fun hzero => by simp [hzero] at hcount
    have given := (exec_txByte b s).trans (congrArg _ (if_neg (not_or.mpr ⟨by simp [hopen], howed⟩)))
    have hrest : s.txRem - 1 = BitVec.ofNat 16 bs.length := by simp [hrem, BitVec.ofNat_add]
    rw [List.map_cons, List.cons_append, execAll, given, andThen_next]
    refine Eq.trans (ih hopen (Nat.lt_of_succ_lt hfit) hrest) (congrArg _ ?_)
    simp [frameGiven, enqueue, done, respond]

/-- `TX_FRAME` queues the composed frame (R235). -/
theorem execAll_pseudoTxFrame {s : State} (hclosed : s.txOpen = false) (tag : Byte) {body : List Byte}
    (hbody : body.length ≤ 65534) :
    execAll (pseudoTxFrame tag body) s = .next (done { enqueue (compose tag body) s with
      txLenHi := highByte (frameLength body), txRem := 0, txSum := ckSum (tag :: body), txOpen := false }) := by
  have hlen := toNat_frameLength hbody
  have hpos : frameLength body ≠ 0 := fun h => by simp [h] at hlen
  have hfit : (tag :: body).length < 65536 := by
    rw [List.length_cons]
    omega
  have howed : frameLength body = BitVec.ofNat 16 (tag :: body).length := by
    rw [frameLength, List.length_cons, Nat.add_comm]
  have queued : (frameGiven (tag :: body) (frameOpened (frameLength body) s)).txq = s.txq ++ compose tag body :=
    List.append_assoc ..
  calc execAll (pseudoTxFrame tag body) s
      = execAll (pseudoTxLen (frameLength body) ++ ((tag :: body).map .txByte ++ [.txEnd])) s := by
        simp [pseudoTxFrame]
    _ = execAll ((tag :: body).map .txByte ++ [.txEnd]) (frameOpened (frameLength body) s) :=
        execAll_txLen_append hclosed hpos _
    _ = .next (frameGiven (tag :: body) (frameOpened (frameLength body) s)) := execAll_txBytes_txEnd rfl hfit howed
    _ = _ := by
        rw [enqueue, ← queued]
        rfl

/-- Settles O57: the bytes the statement writes out are those of `compose`. -/
theorem txFrameQueuesTheCanonicalFrame : Obligations.TxFrameQueuesTheCanonicalFrame := by
  intro s tag body hclosed hbody len
  exact execAll_pseudoTxFrame hclosed tag hbody

end Sys2Proof.Machine
end

section
/-! Composing and parsing are inverse (O58; 43_composer.md R238). -/

namespace Sys2Proof.Machine

/-- A frame abandoned for its length gives no record (R194, R197). -/
theorem HoldsFrame.parseAfterByte_lenMismatch {cfg : Config} {disp : Dispatcher} {tag : Byte} {body ws : List Byte}
    {t : State} (h : HoldsFrame tag body t) : parseAfterByte cfg disp ws (abandon .lenMismatch t) =
      (parseFrom cfg disp ws (abandon .lenMismatch t)).after [] [0x010#9] := by
  have hev : (abandon .lenMismatch t).ev = 0x010#9 := by
    rw [abandon_ev, h.ev]
    rfl
  rw [parseAfterByte, if_neg (by simp), hev, if_neg (by decide)]

/-- Settles O58: the composed frame is dispatched with its tag, its body and its checksum, and the variant check's
verdict decides between a record and an abandonment. -/
theorem parsingAComposedFrameGivesItBack : Obligations.ParsingAComposedFrameGivesItBack := by
  intro cfg s tag body hcfg hps hwf hbody r cls len ck
  obtain ⟨t, ht, parsed⟩ := parseFrom_compose_append hcfg ⟨hps, hwf⟩ hbody tag
  have hr : r = parseAfterByte cfg (registryDispatcher cfg) [] (dispatchFrame cfg tag cls t) := by
    rw [← parsed [], List.append_nil]
  rw [hr, dispatchFrame, ht.body]
  cases cfg.variantCheck cls tag body with
  | ok =>
    rw [applyVerdict, ht.parseAfterByte_completeFrame]
    exact ⟨rfl, rfl, rfl⟩
  | fault c =>
    rw [applyVerdict, ht.parseAfterByte_completeFrame]
    exact ⟨rfl, rfl, rfl⟩
  | lenMismatch =>
    rw [applyVerdict, ht.parseAfterByte_lenMismatch]
    exact ⟨rfl, rfl, rfl⟩

end Sys2Proof.Machine
end

section
/-! The control commands (O3, O8, O9, O11; 44_control.md R251 to R254): each command's result in every state, and the
byte lanes a `TMO_SET` writes and leaves. -/

namespace Sys2Proof.Machine

/-- The words of the control commands, with any `D` where no operand is read (R105, R106, R108). -/
theorem decodeCommand_controlWords (a : BitVec 4) (d : Byte) :
    decodeCommand (commandWord 0x0 a d) = .nop ∧ decodeCommand (commandWord 0xD a d) = .prsCtrl (a.getLsbD 0) ∧
    decodeCommand (commandWord 0xE a d) = .tmoSet (a.extractLsb' 0 2) d ∧
    decodeCommand (commandWord 0xF a d) = if a.toNat < 8 then .regRd a else .regRdReserved a := by
  simp [decodeCommand]

/-- Settles O3: the word by the decoder's row, the result by the command's definition. -/
theorem nopOnlyResponds : Obligations.NopOnlyResponds := by
  intro s a d
  obtain ⟨hnop, _⟩ := decodeCommand_controlWords a d
  exact ⟨hnop, rfl⟩

/-- A start, and a stop outside a frame, write `run` alone (R252). -/
theorem exec_prsCtrl_of_keep {r : Bool} {s : State} (h : r = true ∨ s.ps.midFrame = false) :
    exec (.prsCtrl r) s = .next (done { s with run := r }) := by
  rcases execPrsCtrl_cases r s with ⟨hstop, hmid, _⟩ | ⟨_, e⟩
  · simp [hstop, hmid] at h
  · exact e

/-- A stop mid-frame abandons the frame attempt without an event (R252). -/
theorem exec_prsCtrl_stop_of_midFrame {s : State} (h : s.ps.midFrame = true) :
    exec (.prsCtrl false) s = .next (done { abandonQuietly s with run := false }) := by
  rcases execPrsCtrl_cases false s with ⟨_, _, e⟩ | ⟨hkeep, _⟩
  · exact e
  · simp [h] at hkeep

/-- Settles O8: of the seven parser states, `AWAIT_DELIM` and `COMPLETE` are the two that are not mid-frame. -/
theorem parserControlResults : Obligations.ParserControlResults := by
  refine ⟨fun a d => ?_, fun s => ⟨exec_prsCtrl_of_keep (.inl rfl), fun hout => ?_, fun hmid => ?_⟩⟩
  · obtain ⟨_, hprs, _⟩ := decodeCommand_controlWords a d
    exact hprs
  · exact exec_prsCtrl_of_keep (.inr (by rcases hout with h | h <;> rw [h] <;> rfl))
  · exact exec_prsCtrl_stop_of_midFrame ((midFrame_iff s.ps).mpr hmid)

theorem getLsbD_byteLane (i : BitVec 2) (v : Word32) {k : Nat} (hk : k < 8) :
    (byteLane i v).getLsbD k = v.getLsbD (8 * i.toNat + k) := by
  simp [byteLane, hk]

theorem exists_byteLane_eq (i : BitVec 2) (d : Byte) : ∃ v : Word32, byteLane i v = d := by
  refine ⟨d.setWidth 32 <<< (8 * i.toNat), BitVec.eq_of_getLsbD_eq fun k hk => ?_⟩
  have hbit : 8 * i.toNat + k < 32 := by omega
  rw [getLsbD_byteLane i _ hk]
  simp [hbit]

/-- Writing one byte lane from a value gives that lane the value's, and leaves the other three (R253). -/
theorem byteLane_setByteLane_byteLane (i j : BitVec 2) (v old : Word32) :
    byteLane j (setByteLane i (byteLane i v) old) = if j = i then byteLane j v else byteLane j old := by
  refine BitVec.eq_of_getLsbD_eq fun k hk => ?_
  have hbit : 8 * j.toNat + k < 32 := by omega
  have hlane : (8 * j.toNat + k) / 8 = j.toNat := by omega
  rw [getLsbD_byteLane j _ hk, getLsbD_setByteLane_byteLane i v old hbit, hlane]
  simp only [BitVec.toNat_inj]
  split <;> exact (getLsbD_byteLane j _ hk).symm

/-- Settles O9: the operand is the lane of some value, so that writing it is read back lane by lane. -/
theorem timeoutSetWritesOneByte : Obligations.TimeoutSetWritesOneByte := by
  refine ⟨fun a d => ?_, fun s i d => ?_⟩
  · obtain ⟨_, _, htmo, _⟩ := decodeCommand_controlWords a d
    exact htmo
  · obtain ⟨v, rfl⟩ := exists_byteLane_eq i d
    have hlanes (j : BitVec 2) := byteLane_setByteLane_byteLane i j v s.tmo
    exact ⟨setByteLane i (byteLane i v) s.tmo, exec_tmoSet i (byteLane i v) s, (hlanes i).trans (if_pos rfl),
      fun j hj => (hlanes j).trans (if_neg hj)⟩

/-- A defined selector other than 7 answers its value of the register map (R57, R254). -/
theorem exec_regRd_of_some {sel : BitVec 4} {v : Word16} {s : State} (h : readRegister sel s = some v)
    (hsel : sel.toNat ≠ 7) : exec (.regRd sel) s = .next (respondWord v s) := by
  change Host.Outcome.next (registerRead sel s) = _
  simp only [registerRead, h, if_neg hsel]

/-- Selector 7 answers the `STATUS` word before it clears `cmd_err` (R57, R254). -/
theorem exec_regRd_seven (s : State) :
    exec (.regRd 7) s = .next (respondWord (statusWord s) { s with cmdErr := false }) := by
  rcases registerRead_cases 7 s with ⟨h, _⟩ | ⟨_, e⟩ | ⟨h, _⟩
  · exact absurd h (by decide)
  · exact congrArg Host.Outcome.next e
  · exact absurd h (by decide)

theorem exec_regRdReserved {sel : BitVec 4} (h : 8 ≤ sel.toNat) (s : State) :
    exec (.regRdReserved sel) s = .next (raiseCmdErr s) := by
  rcases registerRead_answer sel s with ⟨_, e⟩ | ⟨hno, _⟩
  · exact congrArg Host.Outcome.next e
  · exact absurd h hno

/-- Settles O11: the words by the decoder's row, selectors 0 to 6 by the register map, selector 7 and the reserved ones
by their own equations. -/
theorem registerReadResults : Obligations.RegisterReadResults := by
  refine ⟨fun a d => ?_, fun s => ?_⟩
  · obtain ⟨_, _, _, hreg⟩ := decodeCommand_controlWords a d
    exact hreg
  · refine ⟨?_, ?_, ?_, ?_, ?_, ?_, ?_, exec_regRd_seven s, fun _ hsel => exec_regRdReserved hsel s⟩
    all_goals exact exec_regRd_of_some rfl (by decide)

end Sys2Proof.Machine
end

section
/-! The causes of a command error (O13; 60_exceptions.md R276, 43_composer.md R237, 44_control.md R254): the list in the
fields of the word, and what a command with none of them leaves. -/

namespace Sys2Proof.Machine

section
variable {w : Word16} {s t : State}

/-- The instruction's cause of an error is the row of the list that its opcode names (R276). -/
theorem errorCause_decodeCommand_iff (w : Word16) (s : State) :
    ErrorCause (decodeCommand w) s ↔
      ((fieldOp w).toNat = 8 ∧ s.txOpen = true) ∨
      ((fieldOp w).toNat = 9 ∧ (s.txOpen = true ∨ (s.txLenHi = 0 ∧ fieldD w = 0))) ∨
      ((fieldOp w).toNat = 10 ∧ (s.txOpen = false ∨ s.txRem = 0)) ∨
      ((fieldOp w).toNat = 11 ∧ (s.txOpen = false ∨ s.txRem ≠ 0)) ∨
      ((fieldOp w).toNat = 15 ∧ 8 ≤ (fieldA w).toNat) := by
  rcases decodeCommand_cases w with ⟨hop, e⟩ | ⟨hop, e⟩ | ⟨hop, e⟩ | ⟨hop, e⟩ | ⟨hop, e⟩ | ⟨hop, e⟩ | ⟨hop, e⟩ |
    ⟨hop, e⟩ | ⟨hop, e⟩ | ⟨hop, e⟩ | ⟨hop, e⟩ | ⟨hop, e⟩ | ⟨hop, e⟩ | ⟨hop, e⟩ | ⟨hop, e⟩ | ⟨hop, _, e⟩ |
    ⟨hop, _, e⟩ <;> simp [ErrorCause, e, hop]

/-- Opcode 15 reads a register, whichever of its two rows the selector is in (R108). -/
theorem runCommand_of_regRd (hop : (fieldOp w).toNat = 15) (s : State) :
    runCommand w s = .next (registerRead (fieldA w) s) := by
  simp only [runCommand, decodeCommand, hop]
  split <;> rfl

/-- A register read that is no error changes `cmd_err` only by selector 7, which clears it (R254). -/
theorem Answered.registerRead_cmdErr {sel : BitVec 4} (h : Answered (registerRead sel s)) :
    (registerRead sel s).cmdErr = s.cmdErr ∨ (registerRead sel s).cmdErr = false ∧ sel.toNat = 7 := by
  rcases registerRead_cases sel s with ⟨_, e⟩ | ⟨hsel, e⟩ | ⟨_, v, e⟩ <;> rw [e] at h ⊢
  · obtain ⟨_, _, _, hrsp, _⟩ := h.rsp
    cases hrsp
  · exact .inr ⟨rfl, hsel⟩
  · exact .inl rfl

/-- A command that is no error reports nothing, and leaves `cmd_err` but for the clear by selector 7 (R276). -/
theorem Answered.runCommand_keeps (h : Answered t) (ht : runCommand w s = .next t) :
    t.ev = s.ev ∧
    (t.cmdErr = s.cmdErr ∨ t.cmdErr = false ∧ (fieldOp w).toNat = 15 ∧ (fieldA w).toNat = 7) := by
  cases runCommand_effect ht with
  | registerRead hop =>
    have read := Host.Outcome.next.inj ((runCommand_of_regRd hop s).symm.trans ht)
    refine ⟨rfl, ?_⟩
    rw [← read] at h ⊢
    exact h.registerRead_cmdErr.imp_right fun ⟨hclear, hsel⟩ => ⟨hclear, hop, hsel⟩
  | error =>
    obtain ⟨_, _, _, hrsp, _⟩ := h.rsp
    cases hrsp
  | _ => exact ⟨rfl, .inl rfl⟩

end

/-- Settles O13: the listed causes are `ErrorCause` of the word's instruction, and any other command is answered. -/
theorem commandErrorExactlyFromItsCauses : Obligations.CommandErrorExactlyFromItsCauses := by
  intro w s op d causes
  have listed : ErrorCause (decodeCommand w) s ↔ causes := errorCause_decodeCommand_iff w s
  refine ⟨fun h => (runCommand_eq_raiseCmdErr_iff w s).mpr (listed.mpr h), fun hno => ?_⟩
  rcases runCommand_answer w s with ⟨hcause, _⟩ | ⟨_, t, ht, answered⟩
  · exact absurd (listed.mp hcause) hno
  · obtain ⟨n, b0, b1, hrsp, _⟩ := answered.rsp
    exact ⟨t, n, b0, b1, ht, hrsp, answered.runCommand_keeps ht⟩

end Sys2Proof.Machine
end

section
/-! No step stops, and no event of an edge touches the coming inputs (O39; 60_exceptions.md R281, R282). -/

namespace Sys2Proof.Machine

/-- No event writes the list of coming inputs (log 5). -/
theorem applyEvent_inputs {cfg : Config} {e : Event} {s t : State}
    (ht : applyEvent cfg (registryDispatcher cfg) e s = .next t) : t.inputs = s.inputs := by
  have parser (he : e.ofParser) : t.inputs = s.inputs :=
    (congrArg State.inputs (eq_withOtherUnits_of_applyEvent he ht) :)
  cases e with
  | txPop => cases ht; rfl
  | foAccept => exact parser (.inr (.inl rfl))
  | rxByte b => exact parser (.inr (.inr ⟨b, rfl⟩))
  | tick => exact parser (.inl rfl)
  | cmd w => cases runCommand_effect ht <;> rfl
  | reset => cases ht; rfl

/-- Settles O39: every event answers a next state, and none puts back the input the edge took. -/
theorem noStepStops : Obligations.NoStepStops := by
  intro s
  obtain ⟨t, ht⟩ : ∃ t, step s = .next t := applyEvents_next runTag_next ..
  refine ⟨t, ht, ?_⟩
  rw [step, runTag_eq] at ht
  exact applyEvents_keeps (P := fun u => u.inputs = s.inputs.tail)
    (fun _ _ _ _ hu hv => (applyEvent_inputs hv).trans hu) rfl ht

end Sys2Proof.Machine
end

section
/-! The reports of one edge (O44; 60_exceptions.md R272, R278): an edge has one parser event beside the acceptance of a
record, and a parser event reports one outcome at most. -/

namespace Sys2Proof.Machine

/-- The event words one accepted byte or one `Tick` can give (R272). -/
inductive ParserReport : BitVec 9 → Prop where
  /-- No outcome: at most the report of an unescaped special byte (R166). -/
  | noOutcome (x : BitVec 9) (hx : x = 0 ∨ x = EventName.unescSpecial.bit) : ParserReport x
  /-- `LEN_ZERO`, `LEN_OVERSIZE` and `TIMEOUT`, which no logical byte gives (R185, R196). -/
  | alone (e : EventName) (he : e = .lenZero ∨ e = .lenOversize ∨ e = .timeout) : ParserReport e.bit
  /-- The outcomes of the checksum byte, which may be an unescaped special byte itself (R194, R195). -/
  | checksum (x : BitVec 9) (hx : x = 0 ∨ x = EventName.unescSpecial.bit) (e : EventName)
    (he : e = .cksumFail ∨ e = .lenMismatch ∨ e = .frameOk ∨ e = .variantFault) : ParserReport (x ||| e.bit)

/-- What R278 says of an event word. -/
def OneOutcome (ev : BitVec 9) : Prop :=
  (ev &&& 0x0BF#9 = 0 ∨ ∃ k, k < 8 ∧ ev &&& 0x0BF#9 = 1#9 <<< k) ∧
  (ev.getLsbD 5 = true → ev &&& 0x0DF#9 = 0) ∧
  (ev.getLsbD 6 = true → ev &&& 0x00C#9 = 0)

theorem ParserReport.oneOutcome {x : BitVec 9} (h : ParserReport x) : OneOutcome x := by
  unfold OneOutcome
  cases h with
  | noOutcome x hx => rcases hx with rfl | rfl <;> decide
  | alone e he => rcases he with rfl | rfl | rfl <;> decide
  | checksum x hx e he => rcases hx with rfl | rfl <;> rcases he with rfl | rfl | rfl | rfl <;> decide

/-- `CMD_ERR` is no parser outcome (R272). -/
theorem OneOutcome.or_cmdErr {x : BitVec 9} (h : OneOutcome x) : OneOutcome (x ||| EventName.cmdErr.bit) := by
  have outside {m : BitVec 9} (hm : EventName.cmdErr.bit &&& m = 0) :
      (x ||| EventName.cmdErr.bit) &&& m = x &&& m := by
    rw [BitVec.and_or_distrib_right, hm]
    exact BitVec.or_zero
  have low {k : Nat} (hk : EventName.cmdErr.bit.getLsbD k = false) :
      (x ||| EventName.cmdErr.bit).getLsbD k = x.getLsbD k := by
    rw [BitVec.getLsbD_or, hk, Bool.or_false]
  unfold OneOutcome
  rw [outside (by decide), outside (by decide), outside (by decide), low (by decide), low (by decide)]
  exact h

section
variable {cfg : Config} {s t : State}

/-- A logical byte reports nothing, or the outcome of the checksum (R192 to R195). -/
theorem parserReport_of_deliver {v : Byte} (ht : deliver (registryDispatcher cfg) v s = .next t)
    (hs : s.ev = 0 ∨ s.ev = EventName.unescSpecial.bit) : ParserReport t.ev := by
  unfold deliver at ht
  split at ht
  case h_3 =>
    rcases logicalCksum_cases (registryDispatcher cfg) v s with ⟨_, e⟩ | ⟨_, e⟩ <;> cases e.symm.trans ht
    · rcases dispatchFrame_cases cfg s.ftype (cfg.registry s.ftype) { s with rxCk := v } with
        ⟨_, e⟩ | ⟨_, _, _, name, hname, e⟩ <;> rw [e]
      · exact .checksum s.ev hs _ (.inr (.inl rfl))
      · exact .checksum s.ev hs name (.inr (.inr hname))
    · exact .checksum s.ev hs _ (.inl rfl)
  all_goals cases ht; exact .noOutcome s.ev hs

/-- An accepted byte reports one outcome at most (R278). -/
theorem parserReport_of_rxByte {b : Byte} (hs : s.ev = 0) (ht : rxByte cfg (registryDispatcher cfg) b s = .next t) :
    ParserReport t.ev := by
  have silent : ParserReport s.ev := .noOutcome s.ev (.inl hs)
  cases hps : s.ps
  case awaitDelim =>
    cases (delimiterSearch cfg _ b s hps).symm.trans ht
    split <;> exact silent
  case readLenMsb => cases (rxByte_of_readLenMsb cfg _ b hps).symm.trans ht; exact silent
  case readLenLsb =>
    cases (rxByte_of_readLenLsb cfg _ b hps).symm.trans ht
    rcases rxLenLsb_cases cfg b { s with idleCnt := 0 } with ⟨_, e⟩ | ⟨_, _, e⟩ | ⟨_, _, e⟩ <;> rw [e]
    · simpa [hs] using ParserReport.alone .lenZero (.inl rfl)
    · simpa [hs] using ParserReport.alone .lenOversize (.inr (.inl rfl))
    · exact silent
  case complete => cases (rxByte_of_complete cfg _ b hps).symm.trans ht; exact silent
  all_goals
    rw [rxByte_of_escaped cfg _ b (by simp [hps])] at ht
    rcases rxEscaped_cases (registryDispatcher cfg) b { s with idleCnt := 0 } with
      ⟨_, _, e⟩ | ⟨_, _, _, e⟩ | ⟨_, _, _, _, e⟩ <;> rw [e] at ht
    · cases ht; exact silent
    · exact parserReport_of_deliver ht (.inl hs)
    · exact parserReport_of_deliver ht (.inr (by simp [hs]))

/-- A `Tick` reports `TIMEOUT` at most (R196). -/
theorem parserReport_tick (hs : s.ev = 0) : ParserReport (tick s).ev := by
  rcases tick_cases s with ⟨_, e⟩ | ⟨_, _, _, e⟩ | ⟨_, _, _, _, e⟩ <;> rw [e]
  · exact .noOutcome s.ev (.inl hs)
  · exact .noOutcome s.ev (.inl hs)
  · simpa [hs] using ParserReport.alone .timeout (.inr (.inr rfl))

/-- The events before a command report one outcome at most: of them only the byte or `Tick`, which comes last, reports
anything (R88, R278). -/
theorem parserReport_of_portEvents {inp : PortInputs} {o : State} (hs : s.ev = 0)
    (ht : applyEvents cfg (registryDispatcher cfg) (portEvents inp o) s = .next t) : ParserReport t.ev := by
  rw [portEvents, applyEvents_append] at ht
  obtain ⟨u, hu, hlast⟩ := andThen_eq_next.mp ht
  have quiet : u.ev = 0 := by
    refine applyEvents_keeps (P := fun u => u.ev = 0) (fun e he u v hu hv => ?_) hs hu
    have handshake : e = .txPop ∨ e = .foAccept := by
      simp only [List.mem_append, List.mem_ite_nil_right, List.mem_singleton] at he
      exact he.imp And.right And.right
    rcases handshake with rfl | rfl <;> cases hv <;> exact hu
  split at hlast <;> rw [applyEvents_singleton] at hlast
  · exact parserReport_of_rxByte quiet hlast
  · cases hlast
    exact parserReport_tick quiet

/-- A command keeps the parser's outcome (R276). -/
theorem OneOutcome.runCommand (h : OneOutcome s.ev) {w : Word16} (ht : runCommand w s = .next t) :
    OneOutcome t.ev := by
  cases runCommand_effect ht with
  | error => exact h.or_cmdErr
  | _ => exact h

/-- The event word after a clock edge (R88, R278). -/
theorem oneOutcome_of_cycle {inp : PortInputs} (ht : cycle cfg (registryDispatcher cfg) inp s = .next t) :
    OneOutcome t.ev := by
  cases hrst : inp.rst with
  | true =>
    cases (cycle_of_rst cfg _ hrst s).symm.trans ht
    exact (ParserReport.noOutcome 0 (.inl rfl)).oneOutcome
  | false =>
    by_cases hcmd : inp.cmdValid = true ∧ cmdReady cfg s = true
    · rw [cycle_of_command hrst hcmd.1 hcmd.2] at ht
      obtain ⟨u, hu, hrun⟩ := andThen_eq_next.mp ht
      exact (parserReport_of_portEvents rfl hu).oneOutcome.runCommand hrun
    · rw [cycle_of_no_command hrst hcmd] at ht
      exact (parserReport_of_portEvents rfl ht).oneOutcome

end

/-- Settles O44: `OneOutcome` of the event word after the edge. -/
theorem oneParserOutcomePerEdge : Obligations.OneParserOutcomePerEdge := by
  intro s t ht
  rw [step, runTag_eq] at ht
  exact oneOutcome_of_cycle ht

end Sys2Proof.Machine
end

section
/-! The reset edge (O2; 70_reset_and_hazards.md R300): a reset cycle's handshake signals, and the registers after it. -/

namespace Sys2Proof.Machine

/-- A reset cycle drives the four ready and valid signals to 0 (R90, R300). -/
theorem portOutputs_of_rst (cfg : Config) {inp : PortInputs} (h : inp.rst = true) (s : State) :
    (portOutputs cfg inp s).rxReady = false ∧ (portOutputs cfg inp s).cmdReady = false ∧
    (portOutputs cfg inp s).foValid = false ∧ (portOutputs cfg inp s).txValid = false := by
  simp [portOutputs, h]

/-- Settles O2: the edge is `resetEdge` alone, and the laws `resetEdge_run` to `resetEdge_ev` give its registers. -/
theorem resetEdgeDominatesEveryEvent : Obligations.ResetEdgeDominatesEveryEvent := by
  intro cfg disp inp s hrst
  have edge := cycle_of_rst cfg disp hrst s
  exact ⟨⟨resetEdge cfg (clearPulses s), edge, by simp⟩, portOutputs_of_rst cfg hrst s⟩

end Sys2Proof.Machine
end
